-- ==== Sys2Proof/Word.lean ====
section
/-!
DEFINITION. The word types of the block (spec/00_scope.md R10): plain bit patterns, which have no sign.
-/

namespace Sys2Proof

/-- One byte of the buffer memory or of an input stream (R60). -/
abbrev Byte := BitVec 8

/-- A 32-bit word: the command word, the status register, the registers of units 0, 2 and 4. -/
abbrev Word32 := BitVec 32

/-- A 64-bit word: an operand, a result register, the registers of units 1, 3 and 5. -/
abbrev Word64 := BitVec 64

end Sys2Proof
end

