-- ==== Sys2Proof/Config.lean ====
section
/-!
DEFINITION. What the spec leaves to the surroundings of the block: the bound on `BUF_BYTES` (R8, R60), and the two
values the model names for a buffer nobody has described yet (assumption log 1 and 2). The spec leaves no result open,
so there is no free value here.
-/

namespace Sys2Proof.Config

/-- `BUF_BYTES` lies below this bound: `0 <= BUF_BYTES < 2^64` (R8). -/
def bufBytesBound : Nat := 2 ^ 64

/-- DESIGN CHOICE (log 1), unsafe. The size of the buffer in `State.reset`, the largest one R8 admits.
`BUF_BYTES` is the spec's open parameter: it is the field `size` of the memory, every statement quantifies over it,
and no command changes it. -/
def resetBufBytes : Nat := 2 ^ 64 - 1

/-- DESIGN CHOICE (log 2), unsafe. What a byte of the buffer reads as before the host has written it.
Every content of the buffer is an input of the model (R61), so no statement rests on this value. -/
def unwrittenByte : Byte := 0#8

end Sys2Proof.Config
end

