-- ==== Sys2Proof/Machine/Constants.lean ====
section
/-!
DEFINITION. The fixed constants of the algorithms, as spec/00_scope.md R9 lists them.
-/

namespace Sys2Proof.Machine

/-- `FNV32_INIT`, the initial constant of FNV32 and FNVJ32. -/
def fnv32Init : Word32 := 0x811C9DC5#32

/-- `FNV32_PRIME`, the multiplier of FNV32 and FNVJ32. -/
def fnv32Prime : Word32 := 0x01000193#32

/-- `FNV64_INIT`, the initial constant of FNV64 and FNVJ64. -/
def fnv64Init : Word64 := 0xCBF29CE484222325#64

/-- `FNV64_PRIME`, the multiplier of FNV64 and FNVJ64. -/
def fnv64Prime : Word64 := 0x00000100000001B3#64

/-- `M32_C1`. -/
def m32C1 : Word32 := 0xCC9E2D51#32

/-- `M32_C2`. -/
def m32C2 : Word32 := 0x1B873593#32

/-- `M32_N`. -/
def m32N : Word32 := 0xE6546B64#32

/-- `M32_F1`. -/
def m32F1 : Word32 := 0x85EBCA6B#32

/-- `M32_F2`. -/
def m32F2 : Word32 := 0xC2B2AE35#32

/-- `M64_C1`. -/
def m64C1 : Word64 := 0x87C37B91114253D5#64

/-- `M64_C2`. -/
def m64C2 : Word64 := 0x4CF5AD432745937F#64

/-- `M64_N1`. -/
def m64N1 : Word64 := 0x52DCE729#64

/-- `M64_N2`. -/
def m64N2 : Word64 := 0x38495AB5#64

/-- `M64_F1`. -/
def m64F1 : Word64 := 0xFF51AFD7ED558CCD#64

/-- `M64_F2`. -/
def m64F2 : Word64 := 0xC4CEB9FE1A85EC53#64

end Sys2Proof.Machine
end

