-- ==== Sys2Proof/Syntax.lean ====
section
/-!
DEFINITION. The commands of the block (spec/30_encoding.md): the opcode and unit names, the two operands, the packet,
and `Instr`, one constructor for each of the 49 rows of spec/opcode_table.json.
-/

namespace Sys2Proof

/-- The two 64-bit operands of a packet (R80). Every packet carries both. A command ignores the operand, or the
high part of an operand, that its rule does not name (R89), and fault entry records both as presented (R281), so
every instruction holds them whole. -/
structure Operands where
  /-- Operand `A`, `CMD[95:32]`. -/
  a : Word64
  /-- Operand `B`, `CMD[159:96]`. -/
  b : Word64
deriving DecidableEq, Repr

/-- One packet on the command port (R80): `CMD[159:0]` in its three parts. -/
structure Packet where
  /-- The command word `CW = CMD[31:0]`. -/
  cw : Word32
  /-- Operands `A = CMD[95:32]` and `B = CMD[159:96]`. -/
  ops : Operands
deriving DecidableEq, Repr

/-- The 19 opcodes of R82. -/
inductive Mnemonic where
  | init | reset | updb | updr | getv | getvh | get128 | getbe | getle | gethex
  | upd16 | upd32 | upd64 | upda16 | upda32 | upda64 | rd32 | rd64 | bind
deriving DecidableEq, Repr

/-- The eight units of R1 and R83. -/
inductive UnitName where
  | fnv32 | fnv64 | fnvj32 | fnvj64 | m3a | m3f | cmb | bor
deriving DecidableEq, Repr

/-- The hashing units, units 0 to 5 (R17): the ones the packer can bind (R262). -/
inductive HashUnit where
  | fnv32 | fnv64 | fnvj32 | fnvj64 | m3a | m3f
deriving DecidableEq, Repr

/-- The five faults of R281, by name. -/
inductive FaultCode where
  /-- A memory range not inside `BUF` (R282). -/
  | bounds
  /-- `OP` is not a defined opcode (R286). -/
  | illegalOp
  /-- `OP` is defined but not legal on `UNIT` (R287). -/
  | illegalUnit
  /-- A reserved field, unused flag or unused immediate is not zero, or a `BIND` selector is illegal (R288). -/
  | illegalField
  /-- A contract command to the packer while it is unbound (R289). -/
  | unbound
deriving DecidableEq, Repr

/-- The instructions, one per row of spec/opcode_table.json, in its order. A constructor is the row's mnemonic and
unit; its fields are the bits the row leaves free and the two operands. -/
inductive Instr where
  /-- `INIT.FNV32`, R143: A = seed. -/
  | initFnv32 (op : Operands)
  /-- `RESET.FNV32`, R144: none. -/
  | resetFnv32 (op : Operands)
  /-- `UPDB.FNV32`, R145: IMM8 = byte. -/
  | updbFnv32 (byte : Byte) (op : Operands)
  /-- `UPDR.FNV32`, R146: A = offset, B = length. -/
  | updrFnv32 (op : Operands)
  /-- `GETV.FNV32`, R147: none. -/
  | getvFnv32 (op : Operands)
  /-- `INIT.FNV64`, R151: A = seed. -/
  | initFnv64 (op : Operands)
  /-- `RESET.FNV64`, R152: none. -/
  | resetFnv64 (op : Operands)
  /-- `UPDB.FNV64`, R153: IMM8 = byte. -/
  | updbFnv64 (byte : Byte) (op : Operands)
  /-- `UPDR.FNV64`, R154: A = offset, B = length. -/
  | updrFnv64 (op : Operands)
  /-- `GETV.FNV64`, R155: none. -/
  | getvFnv64 (op : Operands)
  /-- `INIT.FNVJ32`, R166: A = seed. -/
  | initFnvj32 (op : Operands)
  /-- `RESET.FNVJ32`, R167: none. -/
  | resetFnvj32 (op : Operands)
  /-- `UPDB.FNVJ32`, R168: IMM8 = byte. -/
  | updbFnvj32 (byte : Byte) (op : Operands)
  /-- `UPDR.FNVJ32`, R169: A = offset, B = length. -/
  | updrFnvj32 (op : Operands)
  /-- `GETV.FNVJ32`, R170: none. -/
  | getvFnvj32 (op : Operands)
  /-- `INIT.FNVJ64`, R174: A = seed. -/
  | initFnvj64 (op : Operands)
  /-- `RESET.FNVJ64`, R175: none. -/
  | resetFnvj64 (op : Operands)
  /-- `UPDB.FNVJ64`, R176: IMM8 = byte. -/
  | updbFnvj64 (byte : Byte) (op : Operands)
  /-- `UPDR.FNVJ64`, R177: A = offset, B = length. -/
  | updrFnvj64 (op : Operands)
  /-- `GETV.FNVJ64`, R178: none. -/
  | getvFnvj64 (op : Operands)
  /-- `INIT.M3A`, R197: A = seed. -/
  | initM3a (op : Operands)
  /-- `RESET.M3A`, R198: none. -/
  | resetM3a (op : Operands)
  /-- `UPDB.M3A`, R199: IMM8 = byte. -/
  | updbM3a (byte : Byte) (op : Operands)
  /-- `UPDR.M3A`, R200: A = offset, B = length. -/
  | updrM3a (op : Operands)
  /-- `GETV.M3A`, R202: none. -/
  | getvM3a (op : Operands)
  /-- `UPD16.M3A`, R203: A[15:0] = value. -/
  | upd16M3a (op : Operands)
  /-- `UPD32.M3A`, R204: A[31:0] = value. -/
  | upd32M3a (op : Operands)
  /-- `UPD64.M3A`, R205: A = value. -/
  | upd64M3a (op : Operands)
  /-- `UPDA16.M3A`, R206: A = offset, B = element count, N. -/
  | upda16M3a (null : Bool) (op : Operands)
  /-- `UPDA32.M3A`, R207: A = offset, B = element count, N. -/
  | upda32M3a (null : Bool) (op : Operands)
  /-- `UPDA64.M3A`, R208: A = offset, B = element count, N. -/
  | upda64M3a (null : Bool) (op : Operands)
  /-- `INIT.M3F`, R229: A = seed. -/
  | initM3f (op : Operands)
  /-- `RESET.M3F`, R230: none. -/
  | resetM3f (op : Operands)
  /-- `UPDB.M3F`, R231: IMM8 = byte. -/
  | updbM3f (byte : Byte) (op : Operands)
  /-- `UPDR.M3F`, R232: A = offset, B = length. -/
  | updrM3f (op : Operands)
  /-- `GETV.M3F`, R233: none. -/
  | getvM3f (op : Operands)
  /-- `GETVH.M3F`, R234: none. -/
  | getvhM3f (op : Operands)
  /-- `GET128.M3F`, R236: none. -/
  | get128M3f (op : Operands)
  /-- `GETBE.M3F`, R237: none. -/
  | getbeM3f (op : Operands)
  /-- `GETLE.M3F`, R238: none. -/
  | getleM3f (op : Operands)
  /-- `GETHEX.M3F`, R239: none. -/
  | gethexM3f (op : Operands)
  /-- `UPD64.M3F`, R240: A = value. -/
  | upd64M3f (bigEndian : Bool) (op : Operands)
  /-- `RESET.CMB`, R263: none. -/
  | resetCmb (op : Operands)
  /-- `UPDB.CMB`, R264: IMM8 = byte. -/
  | updbCmb (byte : Byte) (op : Operands)
  /-- `UPDR.CMB`, R265: A = offset, B = length. -/
  | updrCmb (op : Operands)
  /-- `GETV.CMB`, R266: none. -/
  | getvCmb (op : Operands)
  /-- `BIND.CMB`, R261: IMM8[2:0] = SEL1, IMM8[6:4] = SEL2. -/
  | bindCmb (sel1 sel2 : BitVec 3) (op : Operands)
  /-- `RD32.BOR`, R112: A = offset, E. -/
  | rd32Bor (bigEndian : Bool) (op : Operands)
  /-- `RD64.BOR`, R113: A = offset, E. -/
  | rd64Bor (bigEndian : Bool) (op : Operands)
deriving DecidableEq, Repr

end Sys2Proof
end

