-- ==== Sys2Proof/Machine/State.lean ====
section
/-!
DEFINITION. The state of the block (spec/10_state.md), the buffer memory and the host's pending actions beside it, the
reasons a step can stop, and the state after hardware reset. Plain data throughout.
-/

namespace Sys2Proof.Machine

/-- The result registers `R[0]` to `R[3]` (R22). -/
structure ResultRegs where
  /-- `R[0]`. -/
  r0 : Word64
  /-- `R[1]`. -/
  r1 : Word64
  /-- `R[2]`. -/
  r2 : Word64
  /-- `R[3]`. -/
  r3 : Word64
deriving DecidableEq, Repr

/-- The fault and status registers (R23, R24). -/
structure FaultRegs where
  /-- `STATUS`: `FAULT` in bit 0, `FCODE` in bits 7 to 4, every other bit reserved and 0. -/
  status : Word32
  /-- `FCW`, the command word of the command that took the fault. -/
  fcw : Word32
  /-- `FA`, its operand `A`. -/
  fa : Word64
  /-- `FB`, its operand `B`. -/
  fb : Word64
deriving DecidableEq, Repr

/-- Unit 0, FNV32 (R26). -/
structure Fnv32Regs where
  /-- `U0.SEED`. -/
  seed : Word32
  /-- `U0.ACC`. -/
  acc : Word32
deriving DecidableEq, Repr

/-- Unit 1, FNV64 (R27). -/
structure Fnv64Regs where
  /-- `U1.SEED`. -/
  seed : Word64
  /-- `U1.ACC`. -/
  acc : Word64
deriving DecidableEq, Repr

/-- Unit 2, FNVJ32 (R28). -/
structure Fnvj32Regs where
  /-- `U2.SEED`. -/
  seed : Word32
  /-- `U2.ACC`. -/
  acc : Word32
  /-- `U2.LEN`. -/
  len : Word32
  /-- `U2.PW`, the partial word. -/
  pw : Word32
  /-- `U2.PPOS`, the bytes of the current input block already received. -/
  ppos : BitVec 2
deriving DecidableEq, Repr

/-- Unit 3, FNVJ64 (R29). -/
structure Fnvj64Regs where
  /-- `U3.SEED`. -/
  seed : Word64
  /-- `U3.ACC`. -/
  acc : Word64
  /-- `U3.LEN`. -/
  len : Word64
  /-- `U3.PW`, the partial word. -/
  pw : Word64
  /-- `U3.PPOS`, the bytes of the current input block already received. -/
  ppos : BitVec 3
deriving DecidableEq, Repr

/-- Unit 4, M3A, Murmur3 32-bit (R30). -/
structure M3aRegs where
  /-- `U4.SEED`. -/
  seed : Word32
  /-- `U4.H1`. -/
  h1 : Word32
  /-- `U4.LEN`. -/
  len : Word32
  /-- `U4.PK1`, the partial input block. -/
  pk1 : Word32
  /-- `U4.PPOS`, the bytes of the current input block already received. -/
  ppos : BitVec 2
deriving DecidableEq, Repr

/-- Unit 5, M3F, Murmur3 128-bit (R31), with the finalized cache (R32). -/
structure M3fRegs where
  /-- `U5.SEED`. -/
  seed : Word32
  /-- `U5.H1`, the first lane. -/
  h1 : Word64
  /-- `U5.H2`, the second lane. -/
  h2 : Word64
  /-- `U5.LEN`. -/
  len : Word64
  /-- `U5.PK1`, the first 8 bytes of the partial input block. -/
  pk1 : Word64
  /-- `U5.PK2`, its last 8 bytes. -/
  pk2 : Word64
  /-- `U5.PPOS`, the bytes of the current input block already received. -/
  ppos : BitVec 4
  /-- `U5.FINV`: the cache holds the finalised lanes of the current state. -/
  finv : Bool
  /-- `U5.FINLO`, the cached low lane. -/
  finlo : Word64
  /-- `U5.FINHI`, the cached high lane. -/
  finhi : Word64
deriving DecidableEq, Repr

/-- Unit 6, CMB, the packer (R33). The selectors are the spec's 3-bit unit numbers; only 0 to 5 are ever held (R262),
so they are held as the hashing unit they name (log 4). -/
structure CmbRegs where
  /-- `U6.BOUND`. -/
  bound : Bool
  /-- `U6.SEL1`, the unit of `checksum1`. -/
  sel1 : HashUnit
  /-- `U6.SEL2`, the unit of `checksum2`. -/
  sel2 : HashUnit
deriving DecidableEq, Repr

/-- The buffer memory `BUF` (R60), owned by the host. `cells` lists the bytes that differ from
`Config.unwrittenByte`, addresses strictly rising. -/
structure Memory where
  /-- `BUF_BYTES` (R8). -/
  size : Nat
  /-- The listed bytes; every other byte below `size` reads `Config.unwrittenByte`. -/
  cells : List Host.Cell
deriving DecidableEq, Repr

/-- What the host can do to the block between two commands (log 3). Reading a register has no effect on any state
(R25) and is the function `readPort`. -/
inductive HostEvent where
  /-- Present a packet on the command port (R80). -/
  | packet (p : Packet)
  /-- Write one byte of `BUF` while the block is idle (R313). -/
  | bufWrite (addr : Nat) (byte : Byte)
  /-- Assert and release the hardware reset (R310). -/
  | hardwareReset
deriving DecidableEq, Repr

/-- The whole machine. -/
structure State where
  /-- The result registers. -/
  res : ResultRegs
  /-- The fault and status registers. -/
  flt : FaultRegs
  /-- Unit 0, FNV32. -/
  u0 : Fnv32Regs
  /-- Unit 1, FNV64. -/
  u1 : Fnv64Regs
  /-- Unit 2, FNVJ32. -/
  u2 : Fnvj32Regs
  /-- Unit 3, FNVJ64. -/
  u3 : Fnvj64Regs
  /-- Unit 4, M3A. -/
  u4 : M3aRegs
  /-- Unit 5, M3F. -/
  u5 : M3fRegs
  /-- Unit 6, CMB. -/
  u6 : CmbRegs
  /-- The buffer memory: not state of the block (R20), kept by hardware reset. -/
  mem : Memory
  /-- The model's own field: what the host does next, oldest first. -/
  host : List HostEvent
deriving DecidableEq, Repr

/-- The model's faults. The block's own faults (R281) are not among them: they are taken by fault entry, which is a
next state (R284). -/
inductive Fault where
  /-- Raised by the step when the host writes a byte of `BUF` at an address outside `0 .. BUF_BYTES-1`, which R60 says
  does not exist. Safe: the model stops where the spec describes nothing. No command can raise it. -/
  | hostWriteOutsideBuf (addr : Nat)
deriving DecidableEq, Repr

/-- The model's refusals. -/
inductive Refusal where
  /-- An instruction without a meaning, raised by its arm of `exec`. Safe. No arm does: every instruction of the table
  has its meaning. -/
  | notModelled (mnemonic : String)
deriving DecidableEq, Repr

/-- What a step or a meaning answers. -/
abbrev Result := Host.Outcome State Fault Refusal

/-- The machine right after hardware reset (R39, R310): every register at the value the spec states; the buffer as
logs 1 and 2 say; the host with nothing to do (log 3). -/
def State.reset : State where
  res := ⟨0#64, 0#64, 0#64, 0#64⟩
  flt := ⟨0#32, 0#32, 0#64, 0#64⟩
  u0 := ⟨0#32, fnv32Init⟩
  u1 := ⟨0#64, fnv64Init⟩
  u2 := ⟨0#32, fnv32Init, 0#32, 0#32, 0#2⟩
  u3 := ⟨0#64, fnv64Init, 0#64, 0#64, 0#3⟩
  u4 := ⟨0#32, 0#32, 0#32, 0#32, 0#2⟩
  u5 := ⟨0#32, 0#64, 0#64, 0#64, 0#64, 0#64, 0#4, false, 0#64, 0#64⟩
  u6 := ⟨false, .fnv32, .fnv32⟩
  mem := ⟨Config.resetBufBytes, []⟩
  host := []

end Sys2Proof.Machine
end

