-- ==== Sys2Proof/Machine/FnvUnit.lean ====
section
/-!
DEFINITION. The procedures of units 0 and 1, FNV32 and FNV64 (spec/42_fnv.md R140 to R142, R148 to R150).
-/

namespace Sys2Proof.Machine

/-- R140: `Reset_0`. -/
def fnv32Reset (u : Fnv32Regs) : Fnv32Regs := { u with acc := fnv32Init ^^^ u.seed }

/-- R141: `Byte_0(b)`. -/
def fnv32Byte (b : Byte) (u : Fnv32Regs) : Fnv32Regs :=
  { u with acc := (u.acc ^^^ b.setWidth 32) * fnv32Prime }

/-- R142: `Value_0`. -/
def fnv32Value (u : Fnv32Regs) : Word64 := u.acc.setWidth 64

/-- R148: `Reset_1`. -/
def fnv64Reset (u : Fnv64Regs) : Fnv64Regs := { u with acc := fnv64Init ^^^ u.seed }

/-- R149: `Byte_1(b)`. -/
def fnv64Byte (b : Byte) (u : Fnv64Regs) : Fnv64Regs :=
  { u with acc := (u.acc ^^^ b.setWidth 64) * fnv64Prime }

/-- R150: `Value_1`. -/
def fnv64Value (u : Fnv64Regs) : Word64 := u.acc

end Sys2Proof.Machine
end

