-- ==== Sys2Proof/Machine/Bits.lean ====
section
/-!
DEFINITION. Bytes and words (spec/00_scope.md R11, R13; spec/45_murmur3_128.md R235): the two byte orders, the bytes
of a word, rotation, and the packing of byte strings into result registers.
-/

namespace Sys2Proof.Machine

/-- R13: the number whose least significant byte is the first of the list. -/
def leNat : List Byte → Nat
  | [] => 0
  | b :: bs => b.toNat + 256 * leNat bs

/-- R13: the number whose most significant byte is the first of the list. -/
def beNat : List Byte → Nat
  | [] => 0
  | b :: bs => b.toNat * 256 ^ bs.length + beNat bs

/-- Bits `8*i+7 : 8*i` of a word. -/
def byteOfWord {w : Nat} (v : BitVec w) (i : Nat) : Byte := v.extractLsb' (8 * i) 8

/-- The `n` low bytes of a word, least significant byte first. -/
def bytesLE {w : Nat} (n : Nat) (v : BitVec w) : List Byte := (List.range n).map (byteOfWord v)

/-- The `n` low bytes of a word, most significant byte first. -/
def bytesBE {w : Nat} (n : Nat) (v : BitVec w) : List Byte := (bytesLE n v).reverse

/-- R11: rotation left by `n`, `0 < n < 32`. -/
def rotl32 (a : Word32) (n : Nat) : Word32 := a <<< n ||| a >>> (32 - n)

/-- R11: rotation left by `n`, `0 < n < 64`. -/
def rotl64 (a : Word64) (n : Nat) : Word64 := a <<< n ||| a >>> (64 - n)

/-- R235: the word of result register `r` when the byte string `s` is returned, `LE([s[8r], ..., s[8r+7]])`. -/
def packedWord (s : List Byte) (r : Nat) : Word64 := BitVec.ofNat 64 (leNat ((s.drop (8 * r)).take 8))

/-- R239: the ASCII character of a nibble, `'0'` to `'9'` and then lower case `'a'` to `'f'`. -/
def hexDigit (d : BitVec 4) : Byte :=
  if d.toNat ≤ 9 then 0x30#8 + d.setWidth 8 else 0x61#8 + (d.setWidth 8 - 10#8)

/-- R239: the 32 characters of a 128-bit value given as two lanes, most significant nibble first. -/
def hexString (lo hi : Word64) : List Byte :=
  (List.range 32).map fun j => hexDigit ((hi ++ lo).extractLsb' (124 - 4 * j) 4)

/-- R238: the 16 bytes of the 128-bit value, least significant byte first. -/
def stringLE (lo hi : Word64) : List Byte := bytesLE 16 (hi ++ lo)

/-- R237: the 16 bytes of the 128-bit value, most significant byte first. -/
def stringBE (lo hi : Word64) : List Byte := bytesBE 16 (hi ++ lo)

end Sys2Proof.Machine
end

