-- ==== Sys2Proof/Machine/Memory.lean ====
section
/-!
DEFINITION. The buffer memory (spec/20_memory.md) and the read functions of the byte-order reader
(spec/40_byte_order_reader.md R110). The canonical form: addresses strictly rising and below `BUF_BYTES`, no listed
byte equal to what an unlisted address reads as.
-/

namespace Sys2Proof.Machine

/-- What a listing gives at an address. -/
def cellAt : List Host.Cell → Nat → Byte
  | [], _ => Config.unwrittenByte
  | (k, b) :: rest, addr => if k = addr then b else cellAt rest addr

/-- Put a byte at an address, keeping the listing in its canonical form. -/
def cellPut : List Host.Cell → Nat → Byte → List Host.Cell
  | [], addr, byte => if byte = Config.unwrittenByte then [] else [(addr, byte)]
  | (k, b) :: rest, addr, byte =>
    if addr < k then
      if byte = Config.unwrittenByte then (k, b) :: rest else (addr, byte) :: (k, b) :: rest
    else if k = addr then
      if byte = Config.unwrittenByte then rest else (addr, byte) :: rest
    else (k, b) :: cellPut rest addr byte

/-- A listing from the address `low` up to the size: strictly rising, no unwritten byte listed. -/
def cellsWf (size : Nat) : Nat → List Host.Cell → Bool
  | _, [] => true
  | low, (k, b) :: rest =>
    decide (low ≤ k) && decide (k < size) && decide (b ≠ Config.unwrittenByte) && cellsWf size (k + 1) rest

/-- The canonical form of the memory, and the bound of R8 on its size. -/
def Memory.wf (m : Memory) : Bool := decide (m.size < Config.bufBytesBound) && cellsWf m.size 0 m.cells

/-- `BUF[addr]` (R12). -/
def Memory.byteAt (m : Memory) (addr : Nat) : Byte := cellAt m.cells addr

/-- The host writes `BUF[addr]` (R61). The block itself never writes. -/
def Memory.write (m : Memory) (addr : Nat) (byte : Byte) : Memory := { m with cells := cellPut m.cells addr byte }

/-- R13: `MemRead(a, n)`, the bytes `BUF[a], ..., BUF[a+n-1]`. -/
def memRead (m : Memory) (a : Nat) : Nat → List Byte
  | 0 => []
  | n + 1 => m.byteAt a :: memRead m (a + 1) n

/-- R67: `InBounds(a, n)`, on unbounded naturals. -/
def inBounds (m : Memory) (a n : Nat) : Bool := decide (a + n ≤ m.size)

/-- `LE(MemRead(a, 2))`, the array element of R206. -/
def rd16LE (m : Memory) (a : Nat) : BitVec 16 := BitVec.ofNat 16 (leNat (memRead m a 2))

/-- R110: `Rd32LE(a)`. -/
def rd32LE (m : Memory) (a : Nat) : Word32 := BitVec.ofNat 32 (leNat (memRead m a 4))

/-- R110: `Rd32BE(a)`. -/
def rd32BE (m : Memory) (a : Nat) : Word32 := BitVec.ofNat 32 (beNat (memRead m a 4))

/-- R110: `Rd64LE(a)`. -/
def rd64LE (m : Memory) (a : Nat) : Word64 := BitVec.ofNat 64 (leNat (memRead m a 8))

/-- R110: `Rd64BE(a)`. -/
def rd64BE (m : Memory) (a : Nat) : Word64 := BitVec.ofNat 64 (beNat (memRead m a 8))

end Sys2Proof.Machine
end

