-- ==== Sys2Proof/Machine/FnvjUnit.lean ====
section
/-!
DEFINITION. The procedures of units 2 and 3, FNVJ32 and FNVJ64 (spec/43_fnvj.md R161 to R163, R171 to R173), and the
three-phase datapath of R164, which the spec gives as another way of computing the range update.
-/

namespace Sys2Proof.Machine

/-! ## FNVJ32 -/

/-- R161: `Reset_2`. -/
def fnvj32Reset (u : Fnvj32Regs) : Fnvj32Regs :=
  { u with acc := fnv32Init ^^^ u.seed, len := 0#32, pw := 0#32, ppos := 0#2 }

/-- R162: the partial word with `b` put at its big-endian place. -/
def fnvj32Place (b : Byte) (u : Fnvj32Regs) : Word32 :=
  u.pw ||| b.setWidth 32 <<< (8 * (3 - u.ppos.toNat))

/-- R162: `Byte_2(b)`. The fourth byte multiplies first and then XORs the word in. -/
def fnvj32Byte (b : Byte) (u : Fnvj32Regs) : Fnvj32Regs :=
  if u.ppos = 3#2 then
    { u with len := u.len + 1#32, acc := u.acc * fnv32Prime ^^^ fnvj32Place b u, pw := 0#32, ppos := 0#2 }
  else
    { u with len := u.len + 1#32, pw := fnvj32Place b u, ppos := u.ppos + 1#2 }

/-- R163: the accumulator with a pending partial word folded in; the condition is on `PPOS`. -/
def fnvj32Folded (u : Fnvj32Regs) : Word32 :=
  if u.ppos = 0#2 then u.acc else u.acc * fnv32Prime ^^^ u.pw

/-- R163: `Value_2`. -/
def fnvj32Value (u : Fnvj32Regs) : Word64 :=
  (((fnvj32Folded u * fnv32Prime) ^^^ u.len) * fnv32Prime).setWidth 64

/-- R164, phase 1: feed single bytes while `PPOS` is not 0 and bytes remain; answers the unit, the next address and
the bytes left. -/
def fnvj32Drain (m : Memory) : Nat → Nat → Fnvj32Regs → Fnvj32Regs × Nat × Nat
  | 0, i, u => (u, i, 0)
  | n + 1, i, u =>
    if u.ppos = 0#2 then (u, i, n + 1) else fnvj32Drain m n (i + 1) (fnvj32Byte (m.byteAt i) u)

/-- R164, phase 2: `k` full words from address `j`. -/
def fnvj32Words (m : Memory) : Nat → Nat → Fnvj32Regs → Fnvj32Regs
  | 0, _, u => u
  | k + 1, j, u =>
    fnvj32Words m k (j + 4) { u with acc := u.acc * fnv32Prime ^^^ rd32BE m j, len := u.len + 4#32 }

/-- R164, phase 3: the tail, byte by byte. -/
def fnvj32Tail (m : Memory) : Nat → Nat → Fnvj32Regs → Fnvj32Regs
  | 0, _, u => u
  | n + 1, i, u => fnvj32Tail m n (i + 1) (fnvj32Byte (m.byteAt i) u)

/-- R164: the datapath over `n` bytes at `a`. The full words are counted after the drain (C9). -/
def fnvj32Datapath (m : Memory) (a n : Nat) (u : Fnvj32Regs) : Fnvj32Regs :=
  let (u1, i, left) := fnvj32Drain m n a u
  fnvj32Tail m (left % 4) (i + 4 * (left / 4)) (fnvj32Words m (left / 4) i u1)

/-! ## FNVJ64 -/

/-- R171: `Reset_3`. -/
def fnvj64Reset (u : Fnvj64Regs) : Fnvj64Regs :=
  { u with acc := fnv64Init ^^^ u.seed, len := 0#64, pw := 0#64, ppos := 0#3 }

/-- R172: the partial word with `b` put at its big-endian place. -/
def fnvj64Place (b : Byte) (u : Fnvj64Regs) : Word64 :=
  u.pw ||| b.setWidth 64 <<< (8 * (7 - u.ppos.toNat))

/-- R172: `Byte_3(b)`. -/
def fnvj64Byte (b : Byte) (u : Fnvj64Regs) : Fnvj64Regs :=
  if u.ppos = 7#3 then
    { u with len := u.len + 1#64, acc := u.acc * fnv64Prime ^^^ fnvj64Place b u, pw := 0#64, ppos := 0#3 }
  else
    { u with len := u.len + 1#64, pw := fnvj64Place b u, ppos := u.ppos + 1#3 }

/-- R173: the accumulator with a pending partial word folded in. -/
def fnvj64Folded (u : Fnvj64Regs) : Word64 :=
  if u.ppos = 0#3 then u.acc else u.acc * fnv64Prime ^^^ u.pw

/-- R173: `Value_3`. -/
def fnvj64Value (u : Fnvj64Regs) : Word64 :=
  ((fnvj64Folded u * fnv64Prime) ^^^ u.len) * fnv64Prime

/-- R164, phase 1, for unit 3. -/
def fnvj64Drain (m : Memory) : Nat → Nat → Fnvj64Regs → Fnvj64Regs × Nat × Nat
  | 0, i, u => (u, i, 0)
  | n + 1, i, u =>
    if u.ppos = 0#3 then (u, i, n + 1) else fnvj64Drain m n (i + 1) (fnvj64Byte (m.byteAt i) u)

/-- R164, phase 2, for unit 3. -/
def fnvj64Words (m : Memory) : Nat → Nat → Fnvj64Regs → Fnvj64Regs
  | 0, _, u => u
  | k + 1, j, u =>
    fnvj64Words m k (j + 8) { u with acc := u.acc * fnv64Prime ^^^ rd64BE m j, len := u.len + 8#64 }

/-- R164, phase 3, for unit 3. -/
def fnvj64Tail (m : Memory) : Nat → Nat → Fnvj64Regs → Fnvj64Regs
  | 0, _, u => u
  | n + 1, i, u => fnvj64Tail m n (i + 1) (fnvj64Byte (m.byteAt i) u)

/-- R164: the datapath of unit 3 over `n` bytes at `a`. -/
def fnvj64Datapath (m : Memory) (a n : Nat) (u : Fnvj64Regs) : Fnvj64Regs :=
  let (u1, i, left) := fnvj64Drain m n a u
  fnvj64Tail m (left % 8) (i + 8 * (left / 8)) (fnvj64Words m (left / 8) i u1)

end Sys2Proof.Machine
end

