-- ==== Sys2Proof/Machine/M3aUnit.lean ====
section
/-!
DEFINITION. The functions and procedures of unit 4, M3A, Murmur3 32-bit (spec/44_murmur3_32.md R190 to R195), its
typed updates (R203 to R208) and the three-phase datapath of R196.
-/

namespace Sys2Proof.Machine

/-- R190: `MixK32(k)`. -/
def mixK32 (k : Word32) : Word32 := rotl32 (k * m32C1) 15 * m32C2

/-- R191: `ApplyK1(k)`, as a function of `H1`. -/
def applyK1 (k h1 : Word32) : Word32 := rotl32 (h1 ^^^ mixK32 k) 13 * 5#32 + m32N

/-- R192: `Fmix32(h)`. -/
def fmix32 (h : Word32) : Word32 :=
  let h := h ^^^ h >>> 16
  let h := h * m32F1
  let h := h ^^^ h >>> 13
  let h := h * m32F2
  h ^^^ h >>> 16

/-- R193: `Reset_4`. -/
def m3aReset (u : M3aRegs) : M3aRegs :=
  { u with h1 := u.seed, len := 0#32, pk1 := 0#32, ppos := 0#2 }

/-- R194: the partial block with `b` put at its little-endian place. -/
def m3aPlace (b : Byte) (u : M3aRegs) : Word32 := u.pk1 ||| b.setWidth 32 <<< (8 * u.ppos.toNat)

/-- R194: `Byte_4(b)`. -/
def m3aByte (b : Byte) (u : M3aRegs) : M3aRegs :=
  if u.ppos = 3#2 then
    { u with len := u.len + 1#32, h1 := applyK1 (m3aPlace b u) u.h1, pk1 := 0#32, ppos := 0#2 }
  else
    { u with len := u.len + 1#32, pk1 := m3aPlace b u, ppos := u.ppos + 1#2 }

/-- `Bytes_4(list)` (R14). -/
def m3aBytes (bs : List Byte) (u : M3aRegs) : M3aRegs := bs.foldl (fun u b => m3aByte b u) u

/-- R195: `H1` with a pending partial block folded in. -/
def m3aFolded (u : M3aRegs) : Word32 := if u.ppos = 0#2 then u.h1 else u.h1 ^^^ mixK32 u.pk1

/-- R195: `Value_4`. -/
def m3aValue (u : M3aRegs) : Word64 := (fmix32 (m3aFolded u ^^^ u.len)).setWidth 64

/-! ## Array updates -/

/-- R206: `n` 16-bit elements from address `a`, in index order, each least significant byte first. -/
def m3aArray16 (m : Memory) : Nat → Nat → M3aRegs → M3aRegs
  | 0, _, u => u
  | n + 1, a, u => m3aArray16 m n (a + 2) (m3aBytes (bytesLE 2 (rd16LE m a)) u)

/-- R207: `n` 32-bit elements from address `a`. -/
def m3aArray32 (m : Memory) : Nat → Nat → M3aRegs → M3aRegs
  | 0, _, u => u
  | n + 1, a, u => m3aArray32 m n (a + 4) (m3aBytes (bytesLE 4 (rd32LE m a)) u)

/-- R208: `n` 64-bit elements from address `a`. -/
def m3aArray64 (m : Memory) : Nat → Nat → M3aRegs → M3aRegs
  | 0, _, u => u
  | n + 1, a, u => m3aArray64 m n (a + 8) (m3aBytes (bytesLE 8 (rd64LE m a)) u)

/-! ## The datapath of the range update -/

/-- R196, the drain. -/
def m3aDrain (m : Memory) : Nat → Nat → M3aRegs → M3aRegs × Nat × Nat
  | 0, i, u => (u, i, 0)
  | n + 1, i, u => if u.ppos = 0#2 then (u, i, n + 1) else m3aDrain m n (i + 1) (m3aByte (m.byteAt i) u)

/-- R196, `k` full blocks from address `j`. -/
def m3aBlocks (m : Memory) : Nat → Nat → M3aRegs → M3aRegs
  | 0, _, u => u
  | k + 1, j, u => m3aBlocks m k (j + 4) { u with h1 := applyK1 (rd32LE m j) u.h1, len := u.len + 4#32 }

/-- R196, the remainder bytes. -/
def m3aTail (m : Memory) : Nat → Nat → M3aRegs → M3aRegs
  | 0, _, u => u
  | n + 1, i, u => m3aTail m n (i + 1) (m3aByte (m.byteAt i) u)

/-- R196: the datapath over `n` bytes at `a`. The full blocks are counted after the drain (C9). -/
def m3aDatapath (m : Memory) (a n : Nat) (u : M3aRegs) : M3aRegs :=
  let (u1, i, left) := m3aDrain m n a u
  m3aTail m (left % 4) (i + 4 * (left / 4)) (m3aBlocks m (left / 4) i u1)

end Sys2Proof.Machine
end

