-- ==== Sys2Proof/Machine/M3fUnit.lean ====
section
/-!
DEFINITION. The functions and procedures of unit 5, M3F, Murmur3 128-bit (spec/45_murmur3_128.md R220 to R227), its
finalized cache (R226, R241) and the three-phase datapath of R228.
-/

namespace Sys2Proof.Machine

/-- R220: `MixK1(k)`. -/
def mixK1 (k : Word64) : Word64 := rotl64 (k * m64C1) 31 * m64C2

/-- R221: `MixK2(k)`. -/
def mixK2 (k : Word64) : Word64 := rotl64 (k * m64C2) 33 * m64C1

/-- R222: `ApplyKs(k1, k2)`, as a function of the lanes; the second half uses the new first lane (C4). -/
def applyKs (k1 k2 h1 h2 : Word64) : Word64 × Word64 :=
  let h1 := (rotl64 (h1 ^^^ mixK1 k1) 27 + h2) * 5#64 + m64N1
  let h2 := (rotl64 (h2 ^^^ mixK2 k2) 31 + h1) * 5#64 + m64N2
  (h1, h2)

/-- R223: `Fmix64(k)`. -/
def fmix64 (k : Word64) : Word64 :=
  let k := k ^^^ k >>> 33
  let k := k * m64F1
  let k := k ^^^ k >>> 33
  let k := k * m64F2
  k ^^^ k >>> 33

/-- R224: `Reset_5`: the 32-bit seed zero-extended into both lanes; the cache becomes invalid (R241). -/
def m3fReset (u : M3fRegs) : M3fRegs :=
  { u with
    h1 := u.seed.setWidth 64, h2 := u.seed.setWidth 64, len := 0#64, pk1 := 0#64, pk2 := 0#64, ppos := 0#4,
    finv := false }

/-- R225: `PK1` with `b` put at its little-endian place, for the first 8 bytes of an input block. -/
def m3fPlace1 (b : Byte) (u : M3fRegs) : Word64 :=
  if u.ppos.toNat < 8 then u.pk1 ||| b.setWidth 64 <<< (8 * u.ppos.toNat) else u.pk1

/-- R225: `PK2` with `b` put at its little-endian place, for the last 8 bytes of an input block. -/
def m3fPlace2 (b : Byte) (u : M3fRegs) : Word64 :=
  if u.ppos.toNat < 8 then u.pk2 else u.pk2 ||| b.setWidth 64 <<< (8 * (u.ppos.toNat - 8))

/-- R225: `Byte_5(b)`. -/
def m3fByte (b : Byte) (u : M3fRegs) : M3fRegs :=
  if u.ppos = 15#4 then
    let lanes := applyKs (m3fPlace1 b u) (m3fPlace2 b u) u.h1 u.h2
    { u with
      len := u.len + 1#64, h1 := lanes.1, h2 := lanes.2, pk1 := 0#64, pk2 := 0#64, ppos := 0#4, finv := false }
  else
    { u with len := u.len + 1#64, pk1 := m3fPlace1 b u, pk2 := m3fPlace2 b u, ppos := u.ppos + 1#4, finv := false }

/-- R232, R241: a range update, `Bytes_5(list)` and then `FINV <- 0`, which shows for the empty list only. -/
def m3fBytes (bs : List Byte) (u : M3fRegs) : M3fRegs :=
  { bs.foldl (fun u b => m3fByte b u) u with finv := false }

/-- R226: the lanes with the pending bytes of a partial block folded in, each mix on its own condition. -/
def m3fFolded (u : M3fRegs) : Word64 × Word64 :=
  (if 0 < u.ppos.toNat then u.h1 ^^^ mixK1 u.pk1 else u.h1, if 8 < u.ppos.toNat then u.h2 ^^^ mixK2 u.pk2 else u.h2)

/-- R226: the finalised lanes computed afresh, `(lo, hi)`. -/
def m3fFinal (u : M3fRegs) : Word64 × Word64 :=
  let h1 := (m3fFolded u).1 ^^^ u.len
  let h2 := (m3fFolded u).2 ^^^ u.len
  let h1 := h1 + h2
  let h2 := h2 + h1
  let h1 := fmix64 h1
  let h2 := fmix64 h2
  let h1 := h1 + h2
  let h2 := h2 + h1
  (h1, h2)

/-- R226: `Finish_5`: the lanes, from the cache where it is valid, and the unit with the cache filled. -/
def m3fFinish (u : M3fRegs) : (Word64 × Word64) × M3fRegs :=
  if u.finv then ((u.finlo, u.finhi), u)
  else (m3fFinal u, { u with finlo := (m3fFinal u).1, finhi := (m3fFinal u).2, finv := true })

/-! ## The datapath of the range update -/

/-- R228, the drain. -/
def m3fDrain (m : Memory) : Nat → Nat → M3fRegs → M3fRegs × Nat × Nat
  | 0, i, u => (u, i, 0)
  | n + 1, i, u => if u.ppos = 0#4 then (u, i, n + 1) else m3fDrain m n (i + 1) (m3fByte (m.byteAt i) u)

/-- R228, `k` full blocks from address `j`. -/
def m3fBlocks (m : Memory) : Nat → Nat → M3fRegs → M3fRegs
  | 0, _, u => u
  | k + 1, j, u =>
    let lanes := applyKs (rd64LE m j) (rd64LE m (j + 8)) u.h1 u.h2
    m3fBlocks m k (j + 16) { u with h1 := lanes.1, h2 := lanes.2, len := u.len + 16#64 }

/-- R228, the tail bytes. -/
def m3fTail (m : Memory) : Nat → Nat → M3fRegs → M3fRegs
  | 0, _, u => u
  | n + 1, i, u => m3fTail m n (i + 1) (m3fByte (m.byteAt i) u)

/-- R228: the datapath over `n` bytes at `a`. -/
def m3fDatapath (m : Memory) (a n : Nat) (u : M3fRegs) : M3fRegs :=
  let (u1, i, left) := m3fDrain m n a u
  { m3fTail m (left % 16) (i + 16 * (left / 16)) (m3fBlocks m (left / 16) i u1) with finv := false }

end Sys2Proof.Machine
end

