-- ==== Sys2Proof/WellFormed.lean ====
section
/-!
DEFINITION. Which instructions are well formed. The field types already hold every value to the width of its field, so
the one check left is the legality of a binding (R261, R262): a term that fails it has an encoding, and executing it
raises `Fault(ILLEGAL_FIELD)`.
-/

namespace Sys2Proof

/-- R262: both selectors name one of the units 0 to 5 and they differ. -/
def legalBinding (sel1 sel2 : BitVec 3) : Bool :=
  decide (sel1.toNat ≤ 5) && decide (sel2.toNat ≤ 5) && decide (sel1 ≠ sel2)

/-- Well-formed instructions. -/
def Instr.wellFormed : Instr → Bool
  | .initFnv32 _ => true
  | .resetFnv32 _ => true
  | .updbFnv32 _ _ => true
  | .updrFnv32 _ => true
  | .getvFnv32 _ => true
  | .initFnv64 _ => true
  | .resetFnv64 _ => true
  | .updbFnv64 _ _ => true
  | .updrFnv64 _ => true
  | .getvFnv64 _ => true
  | .initFnvj32 _ => true
  | .resetFnvj32 _ => true
  | .updbFnvj32 _ _ => true
  | .updrFnvj32 _ => true
  | .getvFnvj32 _ => true
  | .initFnvj64 _ => true
  | .resetFnvj64 _ => true
  | .updbFnvj64 _ _ => true
  | .updrFnvj64 _ => true
  | .getvFnvj64 _ => true
  | .initM3a _ => true
  | .resetM3a _ => true
  | .updbM3a _ _ => true
  | .updrM3a _ => true
  | .getvM3a _ => true
  | .upd16M3a _ => true
  | .upd32M3a _ => true
  | .upd64M3a _ => true
  | .upda16M3a _ _ => true
  | .upda32M3a _ _ => true
  | .upda64M3a _ _ => true
  | .initM3f _ => true
  | .resetM3f _ => true
  | .updbM3f _ _ => true
  | .updrM3f _ => true
  | .getvM3f _ => true
  | .getvhM3f _ => true
  | .get128M3f _ => true
  | .getbeM3f _ => true
  | .getleM3f _ => true
  | .gethexM3f _ => true
  | .upd64M3f _ _ => true
  | .resetCmb _ => true
  | .updbCmb _ _ => true
  | .updrCmb _ => true
  | .getvCmb _ => true
  | .bindCmb sel1 sel2 _ => legalBinding sel1 sel2
  | .rd32Bor _ _ => true
  | .rd64Bor _ _ => true

end Sys2Proof
end

