-- ==== Sys2Proof/Decode.lean ====
section
/-!
DEFINITION. Decoding and encoding of packets (spec/30_encoding.md). `decode` makes the checks 1 to 3 of R90 in their
order and rejects by the name of the fault; the checks 4 and 5 read the state and belong to the meanings, and so does
the check on the selectors of `BIND`, which R94 and R261 put beyond the selection of the row. `encode` is written
from the same tables.
-/

namespace Sys2Proof

/-! ## The packet and its fields -/

/-- R80: the three parts of `CMD[159:0]`. -/
def packetOfBits (cmd : BitVec 160) : Packet :=
  ⟨cmd.extractLsb' 0 32, ⟨cmd.extractLsb' 32 64, cmd.extractLsb' 96 64⟩⟩

/-- R81: `OP = CW[31:24]`. -/
def opField (cw : Word32) : BitVec 8 := cw.extractLsb' 24 8

/-- R81: `UNIT = CW[23:20]`. -/
def unitField (cw : Word32) : BitVec 4 := cw.extractLsb' 20 4

/-- R81: `Z1 = CW[19:18]`, reserved. -/
def z1Field (cw : Word32) : BitVec 2 := cw.extractLsb' 18 2

/-- R81: `N = CW[17]`, the null flag. -/
def nField (cw : Word32) : Bool := cw.getLsbD 17

/-- R81: `E = CW[16]`, the byte-order flag. -/
def eField (cw : Word32) : Bool := cw.getLsbD 16

/-- R81: `Z0 = CW[15:8]`, reserved. -/
def z0Field (cw : Word32) : BitVec 8 := cw.extractLsb' 8 8

/-- R81: `IMM8 = CW[7:0]`. -/
def immField (cw : Word32) : Byte := cw.extractLsb' 0 8

/-- R87: `SEL1 = IMM8[2:0]` of `BIND`. -/
def sel1OfImm (imm : Byte) : BitVec 3 := imm.extractLsb' 0 3

/-- R87: `SEL2 = IMM8[6:4]` of `BIND`. -/
def sel2OfImm (imm : Byte) : BitVec 3 := imm.extractLsb' 4 3

/-- R92: the immediate of `BIND`, `(u2 << 4) | u1`. -/
def bindImm (sel1 sel2 : BitVec 3) : Byte := sel2.setWidth 8 <<< 4 ||| sel1.setWidth 8

/-! ## Opcodes and units -/

/-- The opcode map of R82. -/
def opcodeBits : Mnemonic → BitVec 8
  | .init => 0x01#8
  | .reset => 0x02#8
  | .updb => 0x03#8
  | .updr => 0x04#8
  | .getv => 0x05#8
  | .getvh => 0x06#8
  | .get128 => 0x07#8
  | .getbe => 0x08#8
  | .getle => 0x09#8
  | .gethex => 0x0A#8
  | .upd16 => 0x10#8
  | .upd32 => 0x11#8
  | .upd64 => 0x12#8
  | .upda16 => 0x14#8
  | .upda32 => 0x15#8
  | .upda64 => 0x16#8
  | .rd32 => 0x20#8
  | .rd64 => 0x21#8
  | .bind => 0x30#8

/-- The unit numbers of R83. -/
def unitBits : UnitName → BitVec 4
  | .fnv32 => 0#4
  | .fnv64 => 1#4
  | .fnvj32 => 2#4
  | .fnvj64 => 3#4
  | .m3a => 4#4
  | .m3f => 5#4
  | .cmb => 6#4
  | .bor => 7#4

/-- All mnemonics, in the order of R82. -/
def allMnemonics : List Mnemonic :=
  [.init, .reset, .updb, .updr, .getv, .getvh, .get128, .getbe, .getle, .gethex,
   .upd16, .upd32, .upd64, .upda16, .upda32, .upda64, .rd32, .rd64, .bind]

/-- All units, in the order of R83. -/
def allUnits : List UnitName := [.fnv32, .fnv64, .fnvj32, .fnvj64, .m3a, .m3f, .cmb, .bor]

/-- The mnemonic of an opcode, or none where R91 reserves the value. -/
def mnemonicOf (op : BitVec 8) : Option Mnemonic := allMnemonics.find? fun m => opcodeBits m == op

/-- The unit of a unit number, or none where R83 reserves the value. -/
def unitOf (bits : BitVec 4) : Option UnitName := allUnits.find? fun u => unitBits u == bits

/-- The units on which an opcode is legal (R84). -/
def legalUnits : Mnemonic → List UnitName
  | .init => [.fnv32, .fnv64, .fnvj32, .fnvj64, .m3a, .m3f]
  | .reset | .updb | .updr | .getv => [.fnv32, .fnv64, .fnvj32, .fnvj64, .m3a, .m3f, .cmb]
  | .getvh | .get128 | .getbe | .getle | .gethex => [.m3f]
  | .upd16 | .upd32 => [.m3a]
  | .upd64 => [.m3a, .m3f]
  | .upda16 | .upda32 | .upda64 => [.m3a]
  | .rd32 | .rd64 => [.bor]
  | .bind => [.cmb]

/-! ## Decoding -/

/-- R86: the mnemonics that use the null flag. -/
def usesNull : Mnemonic → Bool
  | .upda16 | .upda32 | .upda64 => true
  | _ => false

/-- R85: the instructions that use the byte-order flag. -/
def usesByteOrder : Mnemonic → UnitName → Bool
  | .rd32, .bor | .rd64, .bor | .upd64, .m3f => true
  | _, _ => false

/-- R87, R88, R90 step 3: what the immediate of a mnemonic may hold. The two fixed bits of `BIND` are checked here,
its selectors in the instruction's own pseudocode (R261). -/
def immLegal (m : Mnemonic) (imm : Byte) : Bool :=
  match m with
  | .updb => true
  | .bind => !imm.getLsbD 3 && !imm.getLsbD 7
  | _ => imm == 0#8

/-- R90 step 3: every field the instruction does not use is zero. -/
def fieldsLegal (m : Mnemonic) (u : UnitName) (cw : Word32) : Bool :=
  z1Field cw == 0#2 && z0Field cw == 0#8 && (usesNull m || !nField cw) && (usesByteOrder m u || !eField cw)
    && immLegal m (immField cw)

/-- The instruction of a mnemonic on a unit, with the free bits of its row; none where R84 does not allow the pair. -/
def selectInstr (m : Mnemonic) (u : UnitName) (n e : Bool) (imm : Byte) (op : Operands) : Option Instr :=
  match m, u with
  | .init, .fnv32 => some (.initFnv32 op)
  | .reset, .fnv32 => some (.resetFnv32 op)
  | .updb, .fnv32 => some (.updbFnv32 imm op)
  | .updr, .fnv32 => some (.updrFnv32 op)
  | .getv, .fnv32 => some (.getvFnv32 op)
  | .init, .fnv64 => some (.initFnv64 op)
  | .reset, .fnv64 => some (.resetFnv64 op)
  | .updb, .fnv64 => some (.updbFnv64 imm op)
  | .updr, .fnv64 => some (.updrFnv64 op)
  | .getv, .fnv64 => some (.getvFnv64 op)
  | .init, .fnvj32 => some (.initFnvj32 op)
  | .reset, .fnvj32 => some (.resetFnvj32 op)
  | .updb, .fnvj32 => some (.updbFnvj32 imm op)
  | .updr, .fnvj32 => some (.updrFnvj32 op)
  | .getv, .fnvj32 => some (.getvFnvj32 op)
  | .init, .fnvj64 => some (.initFnvj64 op)
  | .reset, .fnvj64 => some (.resetFnvj64 op)
  | .updb, .fnvj64 => some (.updbFnvj64 imm op)
  | .updr, .fnvj64 => some (.updrFnvj64 op)
  | .getv, .fnvj64 => some (.getvFnvj64 op)
  | .init, .m3a => some (.initM3a op)
  | .reset, .m3a => some (.resetM3a op)
  | .updb, .m3a => some (.updbM3a imm op)
  | .updr, .m3a => some (.updrM3a op)
  | .getv, .m3a => some (.getvM3a op)
  | .upd16, .m3a => some (.upd16M3a op)
  | .upd32, .m3a => some (.upd32M3a op)
  | .upd64, .m3a => some (.upd64M3a op)
  | .upda16, .m3a => some (.upda16M3a n op)
  | .upda32, .m3a => some (.upda32M3a n op)
  | .upda64, .m3a => some (.upda64M3a n op)
  | .init, .m3f => some (.initM3f op)
  | .reset, .m3f => some (.resetM3f op)
  | .updb, .m3f => some (.updbM3f imm op)
  | .updr, .m3f => some (.updrM3f op)
  | .getv, .m3f => some (.getvM3f op)
  | .getvh, .m3f => some (.getvhM3f op)
  | .get128, .m3f => some (.get128M3f op)
  | .getbe, .m3f => some (.getbeM3f op)
  | .getle, .m3f => some (.getleM3f op)
  | .gethex, .m3f => some (.gethexM3f op)
  | .upd64, .m3f => some (.upd64M3f e op)
  | .reset, .cmb => some (.resetCmb op)
  | .updb, .cmb => some (.updbCmb imm op)
  | .updr, .cmb => some (.updrCmb op)
  | .getv, .cmb => some (.getvCmb op)
  | .bind, .cmb => some (.bindCmb (sel1OfImm imm) (sel2OfImm imm) op)
  | .rd32, .bor => some (.rd32Bor e op)
  | .rd64, .bor => some (.rd64Bor e op)
  | _, _ => none

/-- R90, steps 1 to 3: the instruction of a packet, or the fault that rejects it. -/
def decode (p : Packet) : Except FaultCode Instr :=
  match mnemonicOf (opField p.cw) with
  | none => .error .illegalOp
  | some m =>
    match unitOf (unitField p.cw) with
    | none => .error .illegalUnit
    | some u =>
      match selectInstr m u (nField p.cw) (eField p.cw) (immField p.cw) p.ops with
      | none => .error .illegalUnit
      | some i => if fieldsLegal m u p.cw then .ok i else .error .illegalField

/-! ## Encoding -/

/-- R81: the command word with these fields, the reserved fields zero. -/
def commandWord (m : Mnemonic) (u : UnitName) (n e : Bool) (imm : Byte) : Word32 :=
  (opcodeBits m).setWidth 32 <<< 24 ||| (unitBits u).setWidth 32 <<< 20
    ||| (BitVec.ofBool n).setWidth 32 <<< 17 ||| (BitVec.ofBool e).setWidth 32 <<< 16 ||| imm.setWidth 32

/-- The packet of an instruction. -/
def encode : Instr → Packet
  | .initFnv32 op => ⟨commandWord .init .fnv32 false false 0#8, op⟩
  | .resetFnv32 op => ⟨commandWord .reset .fnv32 false false 0#8, op⟩
  | .updbFnv32 byte op => ⟨commandWord .updb .fnv32 false false byte, op⟩
  | .updrFnv32 op => ⟨commandWord .updr .fnv32 false false 0#8, op⟩
  | .getvFnv32 op => ⟨commandWord .getv .fnv32 false false 0#8, op⟩
  | .initFnv64 op => ⟨commandWord .init .fnv64 false false 0#8, op⟩
  | .resetFnv64 op => ⟨commandWord .reset .fnv64 false false 0#8, op⟩
  | .updbFnv64 byte op => ⟨commandWord .updb .fnv64 false false byte, op⟩
  | .updrFnv64 op => ⟨commandWord .updr .fnv64 false false 0#8, op⟩
  | .getvFnv64 op => ⟨commandWord .getv .fnv64 false false 0#8, op⟩
  | .initFnvj32 op => ⟨commandWord .init .fnvj32 false false 0#8, op⟩
  | .resetFnvj32 op => ⟨commandWord .reset .fnvj32 false false 0#8, op⟩
  | .updbFnvj32 byte op => ⟨commandWord .updb .fnvj32 false false byte, op⟩
  | .updrFnvj32 op => ⟨commandWord .updr .fnvj32 false false 0#8, op⟩
  | .getvFnvj32 op => ⟨commandWord .getv .fnvj32 false false 0#8, op⟩
  | .initFnvj64 op => ⟨commandWord .init .fnvj64 false false 0#8, op⟩
  | .resetFnvj64 op => ⟨commandWord .reset .fnvj64 false false 0#8, op⟩
  | .updbFnvj64 byte op => ⟨commandWord .updb .fnvj64 false false byte, op⟩
  | .updrFnvj64 op => ⟨commandWord .updr .fnvj64 false false 0#8, op⟩
  | .getvFnvj64 op => ⟨commandWord .getv .fnvj64 false false 0#8, op⟩
  | .initM3a op => ⟨commandWord .init .m3a false false 0#8, op⟩
  | .resetM3a op => ⟨commandWord .reset .m3a false false 0#8, op⟩
  | .updbM3a byte op => ⟨commandWord .updb .m3a false false byte, op⟩
  | .updrM3a op => ⟨commandWord .updr .m3a false false 0#8, op⟩
  | .getvM3a op => ⟨commandWord .getv .m3a false false 0#8, op⟩
  | .upd16M3a op => ⟨commandWord .upd16 .m3a false false 0#8, op⟩
  | .upd32M3a op => ⟨commandWord .upd32 .m3a false false 0#8, op⟩
  | .upd64M3a op => ⟨commandWord .upd64 .m3a false false 0#8, op⟩
  | .upda16M3a null op => ⟨commandWord .upda16 .m3a null false 0#8, op⟩
  | .upda32M3a null op => ⟨commandWord .upda32 .m3a null false 0#8, op⟩
  | .upda64M3a null op => ⟨commandWord .upda64 .m3a null false 0#8, op⟩
  | .initM3f op => ⟨commandWord .init .m3f false false 0#8, op⟩
  | .resetM3f op => ⟨commandWord .reset .m3f false false 0#8, op⟩
  | .updbM3f byte op => ⟨commandWord .updb .m3f false false byte, op⟩
  | .updrM3f op => ⟨commandWord .updr .m3f false false 0#8, op⟩
  | .getvM3f op => ⟨commandWord .getv .m3f false false 0#8, op⟩
  | .getvhM3f op => ⟨commandWord .getvh .m3f false false 0#8, op⟩
  | .get128M3f op => ⟨commandWord .get128 .m3f false false 0#8, op⟩
  | .getbeM3f op => ⟨commandWord .getbe .m3f false false 0#8, op⟩
  | .getleM3f op => ⟨commandWord .getle .m3f false false 0#8, op⟩
  | .gethexM3f op => ⟨commandWord .gethex .m3f false false 0#8, op⟩
  | .upd64M3f bigEndian op => ⟨commandWord .upd64 .m3f false bigEndian 0#8, op⟩
  | .resetCmb op => ⟨commandWord .reset .cmb false false 0#8, op⟩
  | .updbCmb byte op => ⟨commandWord .updb .cmb false false byte, op⟩
  | .updrCmb op => ⟨commandWord .updr .cmb false false 0#8, op⟩
  | .getvCmb op => ⟨commandWord .getv .cmb false false 0#8, op⟩
  | .bindCmb sel1 sel2 op => ⟨commandWord .bind .cmb false false (bindImm sel1 sel2), op⟩
  | .rd32Bor bigEndian op => ⟨commandWord .rd32 .bor false bigEndian 0#8, op⟩
  | .rd64Bor bigEndian op => ⟨commandWord .rd64 .bor false bigEndian 0#8, op⟩

/-! ## The host's probe -/

/-- The packet whose `nbits` lowest bits are those of `w` and whose other bits are 0. Bit 0 of the table's numbering is
`CMD[0]`; the port is a parallel bus, so there is no byte order (R80). -/
def packetOfTableWord (nbits w : Nat) : Packet := packetOfBits (BitVec.ofNat 160 (w % 2 ^ nbits))

/-- The instruction the decoder reads from the first `nbits` bits of a packet, the rest of it zero. -/
def decodeTableWord (nbits w : Nat) : Option Instr :=
  match decode (packetOfTableWord nbits w) with
  | .ok i => some i
  | .error _ => none

end Sys2Proof
end

