-- ==== Sys2Proof/Machine/Flags.lean ====
section
/-!
DEFINITION. The one-bit state of the block (spec/10_state.md R37) and the status word. No command has condition codes
or arithmetic flags: what there is to compute is `STATUS` (R23, R281), `U5.FINV` (set by `m3fFinish`, cleared by the
updates) and `U6.BOUND` (set by `execBindCmb`).
-/

namespace Sys2Proof.Machine

/-- The fault codes of R281. -/
def faultNumber : FaultCode → BitVec 4
  | .bounds => 1#4
  | .illegalOp => 2#4
  | .illegalUnit => 3#4
  | .illegalField => 4#4
  | .unbound => 5#4

/-- R284: the status word after a fault, `(code << 4) | 1`. -/
def statusOf (code : FaultCode) : Word32 := (faultNumber code).setWidth 32 <<< 4 ||| 1#32

/-- R23: `STATUS.FAULT`, bit 0. -/
def State.faulted (s : State) : Bool := s.flt.status.getLsbD 0

/-- R23: `STATUS.FCODE`, bits 7 to 4. -/
def State.fcode (s : State) : BitVec 4 := s.flt.status.extractLsb' 4 4

end Sys2Proof.Machine
end

