-- ==== Sys2Proof/Machine/Operands.lean ====
section
/-!
DEFINITION. How a command reads its operands (spec/30_encoding.md R89): unsigned, never scaled or extended, the high
bits a command does not use ignored. Byte counts are unbounded naturals.
-/

namespace Sys2Proof.Machine

/-- The seed of units 0, 2, 4, 5: `A[31:0]`. -/
def seed32 (op : Operands) : Word32 := op.a.setWidth 32

/-- The seed of units 1, 3: `A[63:0]`. -/
def seed64 (op : Operands) : Word64 := op.a

/-- The value of `UPD16`: `A[15:0]`. -/
def value16 (op : Operands) : BitVec 16 := op.a.setWidth 16

/-- The value of `UPD32`: `A[31:0]`. -/
def value32 (op : Operands) : Word32 := op.a.setWidth 32

/-- The value of `UPD64`: `A[63:0]`. -/
def value64 (op : Operands) : Word64 := op.a

/-- The byte address of `UPDR`, `UPDA*`, `RD*`: `A`. -/
def addrOf (op : Operands) : Nat := op.a.toNat

/-- The count of `UPDR` in bytes and of `UPDA*` in elements: `B`. -/
def countOf (op : Operands) : Nat := op.b.toNat

/-- The byte count of an array of `B` elements of `width` bytes. -/
def arrayBytes (width : Nat) (op : Operands) : Nat := width * countOf op

/-- The hashing unit of a `BIND` selector; none for 6 and 7 (R262). -/
def hashUnitOf (sel : BitVec 3) : Option HashUnit :=
  [HashUnit.fnv32, .fnv64, .fnvj32, .fnvj64, .m3a, .m3f][sel.toNat]?

/-- The unit number of a hashing unit, the value of a selector register (R33). -/
def selectorOf : HashUnit → BitVec 3
  | .fnv32 => 0#3
  | .fnv64 => 1#3
  | .fnvj32 => 2#3
  | .fnvj64 => 3#3
  | .m3a => 4#3
  | .m3f => 5#3

end Sys2Proof.Machine
end

