-- ==== Sys2Proof/Machine/Ops.lean ====
section
/-!
DEFINITION. The named operations over the state that the meanings share: writing result registers, fault entry
(spec/60_exceptions.md R284) and the checks that lead to it, hardware reset, which is the only way out of a fault
(R285, R310), and the host's read port (spec/10_state.md R25).
-/

namespace Sys2Proof.Machine

/-! ## Updates of the state, one per part -/

/-- Write the result registers. -/
def State.setRes (s : State) (x : ResultRegs) : State := { s with res := x }

/-- Write the fault registers. -/
def State.setFlt (s : State) (x : FaultRegs) : State := { s with flt := x }

/-- Write unit 0. -/
def State.setU0 (s : State) (x : Fnv32Regs) : State := { s with u0 := x }

/-- Write unit 1. -/
def State.setU1 (s : State) (x : Fnv64Regs) : State := { s with u1 := x }

/-- Write unit 2. -/
def State.setU2 (s : State) (x : Fnvj32Regs) : State := { s with u2 := x }

/-- Write unit 3. -/
def State.setU3 (s : State) (x : Fnvj64Regs) : State := { s with u3 := x }

/-- Write unit 4. -/
def State.setU4 (s : State) (x : M3aRegs) : State := { s with u4 := x }

/-- Write unit 5. -/
def State.setU5 (s : State) (x : M3fRegs) : State := { s with u5 := x }

/-- Write unit 6. -/
def State.setU6 (s : State) (x : CmbRegs) : State := { s with u6 := x }

/-- Replace the buffer memory: the host's, never a command's (R61). -/
def State.setMem (s : State) (x : Memory) : State := { s with mem := x }

/-- Replace the host's pending events. -/
def State.setHost (s : State) (x : List HostEvent) : State := { s with host := x }

/-- `R[0] <- v`; the other result registers keep their values (R22). -/
def State.writeR0 (s : State) (v : Word64) : State := s.setRes { s.res with r0 := v }

/-- `R[0] <- v0; R[1] <- v1`. -/
def State.writeR01 (s : State) (v0 v1 : Word64) : State := s.setRes { s.res with r0 := v0, r1 := v1 }

/-- `R[r] <- LE(s[8r .. 8r+7])` for `r` in 0 to 3 (R239). -/
def State.writeString4 (s : State) (str : List Byte) : State :=
  s.setRes ⟨packedWord str 0, packedWord str 1, packedWord str 2, packedWord str 3⟩

/-! ## The fault -/

/-- Fault entry (R284), the whole of it: `STATUS`, `FCW`, `FA`, `FB`, and nothing else. -/
def faultEntry (code : FaultCode) (p : Packet) (s : State) : State :=
  s.setFlt ⟨statusOf code, p.cw, p.ops.a, p.ops.b⟩

/-- R13: `raise Fault(code)`. -/
def raiseFault (code : FaultCode) (p : Packet) (s : State) : Result := .next (faultEntry code p s)

/-- R121 (1), R285: while `STATUS.FAULT` is 1 a command has no effect at all. -/
def whenLive (s : State) (effect : State → Result) : Result := if s.faulted then .next s else effect s

/-- R67, R90 step 5: the bounds check of a command that reads `n` bytes at `a`, before any effect. -/
def checkBounds (p : Packet) (a n : Nat) (s : State) (effect : State → State) : Result :=
  if inBounds s.mem a n then .next (effect s) else raiseFault .bounds p s

/-- R90 step 4, R267: a contract command to the packer needs a binding. -/
def checkBound (p : Packet) (s : State) (effect : State → Result) : Result :=
  if s.u6.bound then effect s else raiseFault .unbound p s

/-- Hardware reset (R310): every register at its reset value. The buffer memory is not part of the block, and what the
host does next is the host's. -/
def hardwareReset (s : State) : State := (State.reset.setMem s.mem).setHost s.host

/-! ## The read port -/

/-- R25: what the host reads at a register number. It changes no state. -/
def readPort (number : Nat) (s : State) : Word64 :=
  match number with
  | 0 => s.flt.status.setWidth 64
  | 1 => s.flt.fcw.setWidth 64
  | 2 => s.flt.fa
  | 3 => s.flt.fb
  | 4 => s.res.r0
  | 5 => s.res.r1
  | 6 => s.res.r2
  | 7 => s.res.r3
  | _ => 0#64

end Sys2Proof.Machine
end

