-- ==== Sys2Proof/Machine/Units.lean ====
section
/-!
DEFINITION. The three procedures of each hashing unit as operations on the state (spec/00_scope.md R14), and the shells
of the contract commands over them (spec/41_checksum_contract.md R122 to R126; spec/46_combined.md R263 to R266 for the
packer).
-/

namespace Sys2Proof.Machine

/-! ## The procedures of R14, by unit -/

/-- R122, first line: `SEED_k <- A[w-1:0]`. -/
def seedUnit (k : HashUnit) (op : Operands) (s : State) : State :=
  match k with
  | .fnv32 => s.setU0 { s.u0 with seed := seed32 op }
  | .fnv64 => s.setU1 { s.u1 with seed := seed64 op }
  | .fnvj32 => s.setU2 { s.u2 with seed := seed32 op }
  | .fnvj64 => s.setU3 { s.u3 with seed := seed64 op }
  | .m3a => s.setU4 { s.u4 with seed := seed32 op }
  | .m3f => s.setU5 { s.u5 with seed := seed32 op }

/-- `Reset_k()`. -/
def resetUnit (k : HashUnit) (s : State) : State :=
  match k with
  | .fnv32 => s.setU0 (fnv32Reset s.u0)
  | .fnv64 => s.setU1 (fnv64Reset s.u1)
  | .fnvj32 => s.setU2 (fnvj32Reset s.u2)
  | .fnvj64 => s.setU3 (fnvj64Reset s.u3)
  | .m3a => s.setU4 (m3aReset s.u4)
  | .m3f => s.setU5 (m3fReset s.u5)

/-- `Byte_k(b)`. -/
def byteUnit (k : HashUnit) (b : Byte) (s : State) : State :=
  match k with
  | .fnv32 => s.setU0 (fnv32Byte b s.u0)
  | .fnv64 => s.setU1 (fnv64Byte b s.u1)
  | .fnvj32 => s.setU2 (fnvj32Byte b s.u2)
  | .fnvj64 => s.setU3 (fnvj64Byte b s.u3)
  | .m3a => s.setU4 (m3aByte b s.u4)
  | .m3f => s.setU5 (m3fByte b s.u5)

/-- `Bytes_k(list)`, as the range updates use it: on unit 5 it ends with `FINV <- 0` (R232, R241). -/
def bytesUnit (k : HashUnit) (bs : List Byte) (s : State) : State :=
  match k with
  | .fnv32 => s.setU0 (bs.foldl (fun u b => fnv32Byte b u) s.u0)
  | .fnv64 => s.setU1 (bs.foldl (fun u b => fnv64Byte b u) s.u1)
  | .fnvj32 => s.setU2 (bs.foldl (fun u b => fnvj32Byte b u) s.u2)
  | .fnvj64 => s.setU3 (bs.foldl (fun u b => fnvj64Byte b u) s.u3)
  | .m3a => s.setU4 (m3aBytes bs s.u4)
  | .m3f => s.setU5 (m3fBytes bs s.u5)

/-- `Value_k()`: the value and the state, which differs in the finalized cache of unit 5 only (R126, R227). -/
def valueUnit (k : HashUnit) (s : State) : Word64 × State :=
  match k with
  | .fnv32 => (fnv32Value s.u0, s)
  | .fnv64 => (fnv64Value s.u1, s)
  | .fnvj32 => (fnvj32Value s.u2, s)
  | .fnvj64 => (fnvj64Value s.u3, s)
  | .m3a => (m3aValue s.u4, s)
  | .m3f => ((m3fFinish s.u5).1.1, s.setU5 (m3fFinish s.u5).2)

/-! ## The shells of the contract commands -/

/-- R122: `INIT.k`. -/
def shellInit (k : HashUnit) (op : Operands) (s : State) : Result :=
  whenLive s fun s => .next (resetUnit k (seedUnit k op s))

/-- R123: `RESET.k`. -/
def shellReset (k : HashUnit) (s : State) : Result := whenLive s fun s => .next (resetUnit k s)

/-- R124: `UPDB.k`. -/
def shellUpdb (k : HashUnit) (b : Byte) (s : State) : Result := whenLive s fun s => .next (byteUnit k b s)

/-- R125: `UPDR.k`; `p` is the packet, for fault entry. -/
def shellUpdr (k : HashUnit) (p : Packet) (s : State) : Result :=
  whenLive s fun s => checkBounds p (addrOf p.ops) (countOf p.ops) s fun s =>
    bytesUnit k (memRead s.mem (addrOf p.ops) (countOf p.ops)) s

/-- R126: `GETV.k`. -/
def shellGetv (k : HashUnit) (s : State) : Result :=
  whenLive s fun s => .next ((valueUnit k s).2.writeR0 (valueUnit k s).1)

/-! ## The finalised lanes and the array updates -/

/-- The value commands of unit 5: `Finish_5` and then a write of result registers from `(lo, hi)`. -/
def shellFinish (write : Word64 → Word64 → State → State) (s : State) : Result :=
  whenLive s fun s => .next (write (m3fFinish s.u5).1.1 (m3fFinish s.u5).1.2 (s.setU5 (m3fFinish s.u5).2))

/-- R206 to R209: an array update of unit 4 over elements of `width` bytes. With `N = 1` it is the defined no-op. -/
def shellArray (width : Nat) (feed : Memory → Nat → Nat → M3aRegs → M3aRegs) (null : Bool) (p : Packet)
    (s : State) : Result :=
  whenLive s fun s =>
    if null then .next s
    else checkBounds p (addrOf p.ops) (arrayBytes width p.ops) s fun s =>
      s.setU4 (feed s.mem (countOf p.ops) (addrOf p.ops) s.u4)

/-- R266: `(v2 << 32) or (v1 and 0xFFFFFFFF)` in a 64-bit container. -/
def packValues (v1 v2 : Word64) : Word64 := v2 <<< 32 ||| v1 &&& 0x00000000FFFFFFFF#64

end Sys2Proof.Machine
end

