-- ==== Sys2Proof/Machine/Bor.lean ====
section
/-!
DEFINITION. The meanings of the instructions of unit 7, BOR, the byte-order reader (spec/40_byte_order_reader.md), over the shared
shells of Machine/Units.lean. A command that faults passes its own packet to fault entry.
-/

namespace Sys2Proof.Machine

/-- `RD32.BOR`, R112: zero-extended into `R[0]`. -/
def execRd32Bor (bigEndian : Bool) (op : Operands) (s : State) : Result :=
  whenLive s fun s => checkBounds (encode (.rd32Bor bigEndian op)) (addrOf op) 4 s fun s =>
    s.writeR0 ((if bigEndian then rd32BE s.mem (addrOf op) else rd32LE s.mem (addrOf op)).setWidth 64)

/-- `RD64.BOR`, R113. -/
def execRd64Bor (bigEndian : Bool) (op : Operands) (s : State) : Result :=
  whenLive s fun s => checkBounds (encode (.rd64Bor bigEndian op)) (addrOf op) 8 s fun s =>
    s.writeR0 (if bigEndian then rd64BE s.mem (addrOf op) else rd64LE s.mem (addrOf op))

end Sys2Proof.Machine
end

