-- ==== Sys2Proof/Machine/Cmb.lean ====
section
/-!
DEFINITION. The meanings of the instructions of unit 6, CMB, the packer (spec/46_combined.md), over the shared
shells of Machine/Units.lean. A command that faults passes its own packet to fault entry.
-/

namespace Sys2Proof.Machine

/-- `RESET.CMB`, R263: `checksum1` first, then `checksum2`. -/
def execResetCmb (op : Operands) (s : State) : Result :=
  whenLive s fun s => checkBound (encode (.resetCmb op)) s fun s =>
    .next (resetUnit s.u6.sel2 (resetUnit s.u6.sel1 s))

/-- `UPDB.CMB`, R264. -/
def execUpdbCmb (byte : Byte) (op : Operands) (s : State) : Result :=
  whenLive s fun s => checkBound (encode (.updbCmb byte op)) s fun s =>
    .next (byteUnit s.u6.sel2 byte (byteUnit s.u6.sel1 byte s))

/-- `UPDR.CMB`, R265: one bounds check, then the whole range to `checksum1`, then the whole range to `checksum2`. -/
def execUpdrCmb (op : Operands) (s : State) : Result :=
  whenLive s fun s => checkBound (encode (.updrCmb op)) s fun s =>
    checkBounds (encode (.updrCmb op)) (addrOf op) (countOf op) s fun s =>
      let bytes := memRead s.mem (addrOf op) (countOf op)
      bytesUnit s.u6.sel2 bytes (bytesUnit s.u6.sel1 bytes s)

/-- `GETV.CMB`, R266. -/
def execGetvCmb (op : Operands) (s : State) : Result :=
  whenLive s fun s => checkBound (encode (.getvCmb op)) s fun s =>
    let first := valueUnit s.u6.sel1 s
    let second := valueUnit s.u6.sel2 first.2
    .next (second.2.writeR0 (packValues first.1 second.1))

/-- `BIND.CMB`, R261. -/
def execBindCmb (sel1 sel2 : BitVec 3) (op : Operands) (s : State) : Result :=
  whenLive s fun s =>
    match hashUnitOf sel1, hashUnitOf sel2 with
    | some k1, some k2 =>
      if k1 = k2 then raiseFault .illegalField (encode (.bindCmb sel1 sel2 op)) s else .next (s.setU6 ⟨true, k1, k2⟩)
    | _, _ => raiseFault .illegalField (encode (.bindCmb sel1 sel2 op)) s

end Sys2Proof.Machine
end

