-- ==== Sys2Proof/Machine/Fnv.lean ====
section
/-!
DEFINITION. The meanings of the instructions of units 0 and 1, FNV32 and FNV64 (spec/42_fnv.md), over the shared
shells of Machine/Units.lean. A command that faults passes its own packet to fault entry.
-/

namespace Sys2Proof.Machine

/-- `INIT.FNV32`, R143. -/
def execInitFnv32 (op : Operands) (s : State) : Result := shellInit .fnv32 op s

/-- `RESET.FNV32`, R144. -/
def execResetFnv32 (_op : Operands) (s : State) : Result := shellReset .fnv32 s

/-- `UPDB.FNV32`, R145. -/
def execUpdbFnv32 (byte : Byte) (_op : Operands) (s : State) : Result := shellUpdb .fnv32 byte s

/-- `UPDR.FNV32`, R146. -/
def execUpdrFnv32 (op : Operands) (s : State) : Result := shellUpdr .fnv32 (encode (.updrFnv32 op)) s

/-- `GETV.FNV32`, R147. -/
def execGetvFnv32 (_op : Operands) (s : State) : Result := shellGetv .fnv32 s

/-- `INIT.FNV64`, R151. -/
def execInitFnv64 (op : Operands) (s : State) : Result := shellInit .fnv64 op s

/-- `RESET.FNV64`, R152. -/
def execResetFnv64 (_op : Operands) (s : State) : Result := shellReset .fnv64 s

/-- `UPDB.FNV64`, R153. -/
def execUpdbFnv64 (byte : Byte) (_op : Operands) (s : State) : Result := shellUpdb .fnv64 byte s

/-- `UPDR.FNV64`, R154. -/
def execUpdrFnv64 (op : Operands) (s : State) : Result := shellUpdr .fnv64 (encode (.updrFnv64 op)) s

/-- `GETV.FNV64`, R155. -/
def execGetvFnv64 (_op : Operands) (s : State) : Result := shellGetv .fnv64 s

end Sys2Proof.Machine
end

