-- ==== Sys2Proof/Machine/Fnvj.lean ====
section
/-!
DEFINITION. The meanings of the instructions of units 2 and 3, FNVJ32 and FNVJ64 (spec/43_fnvj.md), over the shared
shells of Machine/Units.lean. A command that faults passes its own packet to fault entry.
-/

namespace Sys2Proof.Machine

/-- `INIT.FNVJ32`, R166. -/
def execInitFnvj32 (op : Operands) (s : State) : Result := shellInit .fnvj32 op s

/-- `RESET.FNVJ32`, R167. -/
def execResetFnvj32 (_op : Operands) (s : State) : Result := shellReset .fnvj32 s

/-- `UPDB.FNVJ32`, R168. -/
def execUpdbFnvj32 (byte : Byte) (_op : Operands) (s : State) : Result := shellUpdb .fnvj32 byte s

/-- `UPDR.FNVJ32`, R169. -/
def execUpdrFnvj32 (op : Operands) (s : State) : Result := shellUpdr .fnvj32 (encode (.updrFnvj32 op)) s

/-- `GETV.FNVJ32`, R170. -/
def execGetvFnvj32 (_op : Operands) (s : State) : Result := shellGetv .fnvj32 s

/-- `INIT.FNVJ64`, R174. -/
def execInitFnvj64 (op : Operands) (s : State) : Result := shellInit .fnvj64 op s

/-- `RESET.FNVJ64`, R175. -/
def execResetFnvj64 (_op : Operands) (s : State) : Result := shellReset .fnvj64 s

/-- `UPDB.FNVJ64`, R176. -/
def execUpdbFnvj64 (byte : Byte) (_op : Operands) (s : State) : Result := shellUpdb .fnvj64 byte s

/-- `UPDR.FNVJ64`, R177. -/
def execUpdrFnvj64 (op : Operands) (s : State) : Result := shellUpdr .fnvj64 (encode (.updrFnvj64 op)) s

/-- `GETV.FNVJ64`, R178. -/
def execGetvFnvj64 (_op : Operands) (s : State) : Result := shellGetv .fnvj64 s

end Sys2Proof.Machine
end

