-- ==== Sys2Proof/Machine/M3a.lean ====
section
/-!
DEFINITION. The meanings of the instructions of unit 4, M3A (spec/44_murmur3_32.md), over the shared
shells of Machine/Units.lean. A command that faults passes its own packet to fault entry.
-/

namespace Sys2Proof.Machine

/-- `INIT.M3A`, R197. -/
def execInitM3a (op : Operands) (s : State) : Result := shellInit .m3a op s

/-- `RESET.M3A`, R198. -/
def execResetM3a (_op : Operands) (s : State) : Result := shellReset .m3a s

/-- `UPDB.M3A`, R199. -/
def execUpdbM3a (byte : Byte) (_op : Operands) (s : State) : Result := shellUpdb .m3a byte s

/-- `UPDR.M3A`, R200. -/
def execUpdrM3a (op : Operands) (s : State) : Result := shellUpdr .m3a (encode (.updrM3a op)) s

/-- `GETV.M3A`, R202. -/
def execGetvM3a (_op : Operands) (s : State) : Result := shellGetv .m3a s

/-- `UPD16.M3A`, R203: two bytes of the value, least significant first. -/
def execUpd16M3a (op : Operands) (s : State) : Result :=
  whenLive s fun s => .next (s.setU4 (m3aBytes (bytesLE 2 (value16 op)) s.u4))

/-- `UPD32.M3A`, R204: four bytes of the value, least significant first. -/
def execUpd32M3a (op : Operands) (s : State) : Result :=
  whenLive s fun s => .next (s.setU4 (m3aBytes (bytesLE 4 (value32 op)) s.u4))

/-- `UPD64.M3A`, R205: eight bytes of the value, least significant first. -/
def execUpd64M3a (op : Operands) (s : State) : Result :=
  whenLive s fun s => .next (s.setU4 (m3aBytes (bytesLE 8 (value64 op)) s.u4))

/-- `UPDA16.M3A`, R206. -/
def execUpda16M3a (null : Bool) (op : Operands) (s : State) : Result :=
  shellArray 2 m3aArray16 null (encode (.upda16M3a null op)) s

/-- `UPDA32.M3A`, R207. -/
def execUpda32M3a (null : Bool) (op : Operands) (s : State) : Result :=
  shellArray 4 m3aArray32 null (encode (.upda32M3a null op)) s

/-- `UPDA64.M3A`, R208. -/
def execUpda64M3a (null : Bool) (op : Operands) (s : State) : Result :=
  shellArray 8 m3aArray64 null (encode (.upda64M3a null op)) s

end Sys2Proof.Machine
end

