-- ==== Sys2Proof/Machine/M3f.lean ====
section
/-!
DEFINITION. The meanings of the instructions of unit 5, M3F (spec/45_murmur3_128.md), over the shared
shells of Machine/Units.lean. A command that faults passes its own packet to fault entry.
-/

namespace Sys2Proof.Machine

/-- `INIT.M3F`, R229. -/
def execInitM3f (op : Operands) (s : State) : Result := shellInit .m3f op s

/-- `RESET.M3F`, R230. -/
def execResetM3f (_op : Operands) (s : State) : Result := shellReset .m3f s

/-- `UPDB.M3F`, R231. -/
def execUpdbM3f (byte : Byte) (_op : Operands) (s : State) : Result := shellUpdb .m3f byte s

/-- `UPDR.M3F`, R232. -/
def execUpdrM3f (op : Operands) (s : State) : Result := shellUpdr .m3f (encode (.updrM3f op)) s

/-- `GETV.M3F`, R233: the low lane; the cache is filled (R226). -/
def execGetvM3f (_op : Operands) (s : State) : Result := shellGetv .m3f s

/-- `GETVH.M3F`, R234: the high lane. -/
def execGetvhM3f (_op : Operands) (s : State) : Result := shellFinish (fun _ hi t => t.writeR0 hi) s

/-- `GET128.M3F`, R236: both lanes, the low one in `R[0]`. -/
def execGet128M3f (_op : Operands) (s : State) : Result := shellFinish (fun lo hi t => t.writeR01 lo hi) s

/-- `GETBE.M3F`, R237: the 16 bytes, most significant first, packed by R235. -/
def execGetbeM3f (_op : Operands) (s : State) : Result :=
  shellFinish (fun lo hi t => t.writeR01 (packedWord (stringBE lo hi) 0) (packedWord (stringBE lo hi) 1)) s

/-- `GETLE.M3F`, R238: the 16 bytes, least significant first, packed by R235. -/
def execGetleM3f (_op : Operands) (s : State) : Result :=
  shellFinish (fun lo hi t => t.writeR01 (packedWord (stringLE lo hi) 0) (packedWord (stringLE lo hi) 1)) s

/-- `GETHEX.M3F`, R239: the 32 characters, packed by R235. -/
def execGethexM3f (_op : Operands) (s : State) : Result :=
  shellFinish (fun lo hi t => t.writeString4 (hexString lo hi)) s

/-- `UPD64.M3F`, R240: eight bytes of the value in the order of `E`. -/
def execUpd64M3f (bigEndian : Bool) (op : Operands) (s : State) : Result :=
  whenLive s fun s =>
    .next (s.setU5 (m3fBytes (if bigEndian then bytesBE 8 (value64 op) else bytesLE 8 (value64 op)) s.u5))

end Sys2Proof.Machine
end

