-- ==== Sys2Proof/Machine/Dispatch.lean ====
section
/-!
DEFINITION. The dispatch: one arm per instruction, each one direct call of its meaning.
-/

namespace Sys2Proof.Machine

def exec (i : Instr) (s : State) : Host.Outcome State Fault Refusal :=
  match i with
  | .initFnv32 op => Sys2Proof.Machine.execInitFnv32 op s
  | .resetFnv32 op => Sys2Proof.Machine.execResetFnv32 op s
  | .updbFnv32 byte op => Sys2Proof.Machine.execUpdbFnv32 byte op s
  | .updrFnv32 op => Sys2Proof.Machine.execUpdrFnv32 op s
  | .getvFnv32 op => Sys2Proof.Machine.execGetvFnv32 op s
  | .initFnv64 op => Sys2Proof.Machine.execInitFnv64 op s
  | .resetFnv64 op => Sys2Proof.Machine.execResetFnv64 op s
  | .updbFnv64 byte op => Sys2Proof.Machine.execUpdbFnv64 byte op s
  | .updrFnv64 op => Sys2Proof.Machine.execUpdrFnv64 op s
  | .getvFnv64 op => Sys2Proof.Machine.execGetvFnv64 op s
  | .initFnvj32 op => Sys2Proof.Machine.execInitFnvj32 op s
  | .resetFnvj32 op => Sys2Proof.Machine.execResetFnvj32 op s
  | .updbFnvj32 byte op => Sys2Proof.Machine.execUpdbFnvj32 byte op s
  | .updrFnvj32 op => Sys2Proof.Machine.execUpdrFnvj32 op s
  | .getvFnvj32 op => Sys2Proof.Machine.execGetvFnvj32 op s
  | .initFnvj64 op => Sys2Proof.Machine.execInitFnvj64 op s
  | .resetFnvj64 op => Sys2Proof.Machine.execResetFnvj64 op s
  | .updbFnvj64 byte op => Sys2Proof.Machine.execUpdbFnvj64 byte op s
  | .updrFnvj64 op => Sys2Proof.Machine.execUpdrFnvj64 op s
  | .getvFnvj64 op => Sys2Proof.Machine.execGetvFnvj64 op s
  | .initM3a op => Sys2Proof.Machine.execInitM3a op s
  | .resetM3a op => Sys2Proof.Machine.execResetM3a op s
  | .updbM3a byte op => Sys2Proof.Machine.execUpdbM3a byte op s
  | .updrM3a op => Sys2Proof.Machine.execUpdrM3a op s
  | .getvM3a op => Sys2Proof.Machine.execGetvM3a op s
  | .upd16M3a op => Sys2Proof.Machine.execUpd16M3a op s
  | .upd32M3a op => Sys2Proof.Machine.execUpd32M3a op s
  | .upd64M3a op => Sys2Proof.Machine.execUpd64M3a op s
  | .upda16M3a null op => Sys2Proof.Machine.execUpda16M3a null op s
  | .upda32M3a null op => Sys2Proof.Machine.execUpda32M3a null op s
  | .upda64M3a null op => Sys2Proof.Machine.execUpda64M3a null op s
  | .initM3f op => Sys2Proof.Machine.execInitM3f op s
  | .resetM3f op => Sys2Proof.Machine.execResetM3f op s
  | .updbM3f byte op => Sys2Proof.Machine.execUpdbM3f byte op s
  | .updrM3f op => Sys2Proof.Machine.execUpdrM3f op s
  | .getvM3f op => Sys2Proof.Machine.execGetvM3f op s
  | .getvhM3f op => Sys2Proof.Machine.execGetvhM3f op s
  | .get128M3f op => Sys2Proof.Machine.execGet128M3f op s
  | .getbeM3f op => Sys2Proof.Machine.execGetbeM3f op s
  | .getleM3f op => Sys2Proof.Machine.execGetleM3f op s
  | .gethexM3f op => Sys2Proof.Machine.execGethexM3f op s
  | .upd64M3f bigEndian op => Sys2Proof.Machine.execUpd64M3f bigEndian op s
  | .resetCmb op => Sys2Proof.Machine.execResetCmb op s
  | .updbCmb byte op => Sys2Proof.Machine.execUpdbCmb byte op s
  | .updrCmb op => Sys2Proof.Machine.execUpdrCmb op s
  | .getvCmb op => Sys2Proof.Machine.execGetvCmb op s
  | .bindCmb sel1 sel2 op => Sys2Proof.Machine.execBindCmb sel1 sel2 op s
  | .rd32Bor bigEndian op => Sys2Proof.Machine.execRd32Bor bigEndian op s
  | .rd64Bor bigEndian op => Sys2Proof.Machine.execRd64Bor bigEndian op s

end Sys2Proof.Machine
end

