-- ==== Sys2Proof/Machine/Port.lean ====
section
/-!
DEFINITION. The command port and the host's events (spec/30_encoding.md R80, R90; spec/70_reset_and_hazards.md R310,
R313): what one event does. The step takes the oldest pending event and runs it.
-/

namespace Sys2Proof.Machine

/-- A packet is accepted (R90, R121): while `STATUS.FAULT` is 1 it is not decoded and has no effect (R285); a packet
the decoder rejects takes its fault; any other runs its instruction. -/
def runPacket (p : Packet) (s : State) : Result :=
  whenLive s fun s =>
    match decode p with
    | .error code => raiseFault code p s
    | .ok i => exec i s

/-- One event of the host. -/
def runEvent (ev : HostEvent) (s : State) : Result :=
  match ev with
  | .packet p => runPacket p s
  | .bufWrite addr byte =>
    if addr < s.mem.size then .next (s.setMem (s.mem.write addr byte)) else .fault (.hostWriteOutsideBuf addr)
  | .hardwareReset => .next (hardwareReset s)

/-- The oldest pending event and the state without it; none while the host does nothing. -/
def takeEvent (s : State) : Option (HostEvent × State) :=
  match s.host with
  | [] => none
  | ev :: rest => some (ev, s.setHost rest)

/-- The host presents a packet before everything that is pending. -/
def presentFirst (p : Packet) (s : State) : State := s.setHost (.packet p :: s.host)

end Sys2Proof.Machine
end

