-- ==== Sys2Proof/Machine/Step.lean ====
section
/-!
DEFINITION. One step of the machine: the oldest event of the host, run to completion (R20, R70). With no event pending
the block is idle and keeps all state (R298).
-/

namespace Sys2Proof.Machine

/-- One step. -/
def step (s : State) : Host.Outcome State Fault Refusal :=
  match takeEvent s with
  | none => .next s
  | some (ev, s1) => runEvent ev s1

/-- `s` with one packet presented first: the packet whose low `nbits` bits are `w`, the rest zero. -/
def State.withFetchWord (s : State) (nbits w : Nat) : State := presentFirst (packetOfTableWord nbits w) s

end Sys2Proof.Machine
end

