-- ==== Sys2Proof/Machine/Assembler.lean ====
section
/-!
DEFINITION. The assembler of spec/30_encoding.md R92 and the pseudo-instructions of R93: text to packets, and packets
to the listing form. No command reads or writes text; this is the notation the spec writes programs in.
-/

namespace Sys2Proof.Machine

/-- R92: the unit names. -/
def unitText : UnitName → String
  | .fnv32 => "FNV32"
  | .fnv64 => "FNV64"
  | .fnvj32 => "FNVJ32"
  | .fnvj64 => "FNVJ64"
  | .m3a => "M3A"
  | .m3f => "M3F"
  | .cmb => "CMB"
  | .bor => "BOR"

/-- R82: the mnemonics. -/
def mnemonicText : Mnemonic → String
  | .init => "INIT"
  | .reset => "RESET"
  | .updb => "UPDB"
  | .updr => "UPDR"
  | .getv => "GETV"
  | .getvh => "GETVH"
  | .get128 => "GET128"
  | .getbe => "GETBE"
  | .getle => "GETLE"
  | .gethex => "GETHEX"
  | .upd16 => "UPD16"
  | .upd32 => "UPD32"
  | .upd64 => "UPD64"
  | .upda16 => "UPDA16"
  | .upda32 => "UPDA32"
  | .upda64 => "UPDA64"
  | .rd32 => "RD32"
  | .rd64 => "RD64"
  | .bind => "BIND"

/-- The hashing unit a unit name stands for, as an operand of `BIND.CMB`. DESIGN CHOICE (log 9): R92 says only "the
unit numbers of the named units" there and leaves open whether `CMB` and `BOR`, whose numbers 6 and 7 fit the fields,
may be named. Here they may not, so the line is no command. The same hashing unit named twice assembles, and its packet
raises `ILLEGAL_FIELD` (R261). -/
def hashUnitNamed : UnitName → Option HashUnit
  | .fnv32 => some .fnv32
  | .fnv64 => some .fnv64
  | .fnvj32 => some .fnvj32
  | .fnvj64 => some .fnvj64
  | .m3a => some .m3a
  | .m3f => some .m3f
  | .cmb => none
  | .bor => none

/-! ## Reading text -/

/-- The value of a hexadecimal digit. -/
def digitValue (c : Char) : Option Nat :=
  if '0' ≤ c ∧ c ≤ '9' then some (c.toNat - '0'.toNat)
  else if 'a' ≤ c ∧ c ≤ 'f' then some (c.toNat - 'a'.toNat + 10)
  else if 'A' ≤ c ∧ c ≤ 'F' then some (c.toNat - 'A'.toNat + 10)
  else none

/-- The number of a non-empty digit string in a base, added to what stands before it. -/
def digitsValue (base : Nat) : Nat → List Char → Option Nat
  | acc, [] => some acc
  | acc, c :: cs =>
    match digitValue c with
    | some d => if d < base then digitsValue base (acc * base + d) cs else none
    | none => none

/-- R92: a number is decimal or `0x` hexadecimal. DESIGN CHOICE (log 9): hexadecimal digits of either case. -/
def numberOf : List Char → Option Nat
  | [] => none
  | ['0', 'x'] => none
  | '0' :: 'x' :: cs => digitsValue 16 0 cs
  | cs => digitsValue 10 0 cs

/-- A number that fits a 64-bit operand. -/
def operandOf (cs : List Char) : Option Word64 :=
  match numberOf cs with
  | some n => if n < 2 ^ 64 then some (BitVec.ofNat 64 n) else none
  | none => none

/-- `LE` or `BE`, as the flag `E`. -/
def orderOf (cs : List Char) : Option Bool :=
  if cs = "LE".toList then some false else if cs = "BE".toList then some true else none

/-- The unit of a unit name. -/
def unitNamed (cs : List Char) : Option UnitName := allUnits.find? fun u => (unitText u).toList == cs

/-- The mnemonic of a mnemonic's name. -/
def mnemonicNamed (cs : List Char) : Option Mnemonic := allMnemonics.find? fun m => (mnemonicText m).toList == cs

/-- White space inside a line. DESIGN CHOICE (log 9): R92 does not say what it is. -/
def isBlank (c : Char) : Bool := c == ' ' || c == '\t' || c == '\r'

/-- A word without the blanks around it. -/
def trimmed (cs : List Char) : List Char := ((cs.dropWhile isBlank).reverse.dropWhile isBlank).reverse

/-- The pieces of a text between separators. -/
def piecesAt (sep : Char) : List Char → List (List Char)
  | [] => [[]]
  | c :: cs =>
    if c = sep then [] :: piecesAt sep cs
    else
      match piecesAt sep cs with
      | [] => [[c]]
      | p :: ps => (c :: p) :: ps

/-- The operands of a line: comma-separated words, none for an empty rest. -/
def operandWords (cs : List Char) : List (List Char) :=
  if trimmed cs = [] then [] else (piecesAt ',' cs).map trimmed

/-! ## Assembling -/

/-- R92: the instruction of a mnemonic on a unit with its operand words; every operand not named is 0.
DESIGN CHOICE (log 9): operands out of range or in the wrong number make the line no command. -/
def assembleWords (m : Mnemonic) (u : UnitName) (args : List (List Char)) : Option Instr :=
  match m, args with
  | .init, [x] | .upd16, [x] | .upd32, [x] =>
    (operandOf x).bind fun a => selectInstr m u false false 0#8 ⟨a, 0#64⟩
  | .upd64, [x] => if u = .m3a then (operandOf x).bind fun a => selectInstr m u false false 0#8 ⟨a, 0#64⟩ else none
  | .upd64, [x, order] =>
    if u = .m3f then
      (operandOf x).bind fun a => (orderOf order).bind fun e => selectInstr m u false e 0#8 ⟨a, 0#64⟩
    else none
  | .updb, [x] =>
    (operandOf x).bind fun a =>
      if a.toNat < 256 then selectInstr m u false false (a.setWidth 8) ⟨0#64, 0#64⟩ else none
  | .updr, [x, y] =>
    (operandOf x).bind fun a => (operandOf y).bind fun b => selectInstr m u false false 0#8 ⟨a, b⟩
  | .upda16, [x] | .upda32, [x] | .upda64, [x] =>
    if x = "NULL".toList then selectInstr m u true false 0#8 ⟨0#64, 0#64⟩ else none
  | .upda16, [x, y] | .upda32, [x, y] | .upda64, [x, y] =>
    (operandOf x).bind fun a => (operandOf y).bind fun b => selectInstr m u false false 0#8 ⟨a, b⟩
  | .rd32, [x, order] | .rd64, [x, order] =>
    (operandOf x).bind fun a => (orderOf order).bind fun e => selectInstr m u false e 0#8 ⟨a, 0#64⟩
  | .bind, [x, y] =>
    ((unitNamed x).bind hashUnitNamed).bind fun k1 => ((unitNamed y).bind hashUnitNamed).bind fun k2 =>
      selectInstr m u false false (bindImm (selectorOf k1) (selectorOf k2)) ⟨0#64, 0#64⟩
  | .reset, [] | .getv, [] | .getvh, [] | .get128, [] | .getbe, [] | .getle, [] | .gethex, [] =>
    selectInstr m u false false 0#8 ⟨0#64, 0#64⟩
  | _, _ => none

/-- R93: a pseudo-instruction's mnemonic, unit and operands. `bufLength` is the `n` of `UPDALL`, the length of the
buffer loaded at address 0. -/
def assemblePseudo (bufLength : Nat) (name : List Char) (u : UnitName) (args : List (List Char)) : Option Instr :=
  if name = "NEW".toList then
    if args = [] then selectInstr .init u false false 0#8 ⟨0#64, 0#64⟩ else none
  else if name = "UPDF32".toList then
    if u = .m3a then assembleWords .upd32 u args else none
  else if name = "UPDF64".toList then
    if u = .m3a then assembleWords .upd64 u args else none
  else if name = "UPDAF32".toList then
    if u = .m3a then assembleWords .upda32 u args else none
  else if name = "UPDAF64".toList then
    if u = .m3a then assembleWords .upda64 u args else none
  else if name = "UPD64LE".toList then
    if u = .m3f then assembleWords .upd64 u (args ++ ["LE".toList]) else none
  else if name = "UPD64BE".toList then
    if u = .m3f then assembleWords .upd64 u (args ++ ["BE".toList]) else none
  else if name = "UPDALL".toList then
    if args = [] ∧ bufLength < 2 ^ 64 then
      selectInstr .updr u false false 0#8 ⟨0#64, BitVec.ofNat 64 bufLength⟩
    else none
  else none

/-- R92: one command, `MNEMONIC.UNITNAME operands`, without comment. -/
def assembleCommand (bufLength : Nat) (cs : List Char) : Option Instr :=
  let name := cs.takeWhile fun c => c != '.' && !isBlank c
  match cs.drop name.length with
  | '.' :: rest =>
    let unitPart := rest.takeWhile fun c => !isBlank c
    match unitNamed unitPart with
    | none => none
    | some u =>
      let args := operandWords (rest.drop unitPart.length)
      match mnemonicNamed name with
      | some m => assembleWords m u args
      | none => assemblePseudo bufLength name u args
  | _ => none

/-- R92: a program, one command a line, `;` starting a comment, blank lines skipped; none where a line is no command.
DESIGN CHOICE (log 9): the skipping of blank lines and the rejection of the whole text. -/
def assemble (bufLength : Nat) (text : List Char) : Option (List Packet) :=
  ((piecesAt '\n' text).map fun line => trimmed (line.takeWhile fun c => c != ';')).foldr
    (fun line rest =>
      rest.bind fun ps =>
        if line = [] then some ps else (assembleCommand bufLength line).map fun i => encode i :: ps)
    (some [])

/-! ## Listing -/

/-- An upper-case hexadecimal digit. -/
def hexChar (d : Nat) : Char := if d ≤ 9 then Char.ofNat (0x30 + d) else Char.ofNat (0x41 + (d - 10))

/-- A number as `0x` and that many hexadecimal digits. -/
def hexText (digits n : Nat) : List Char :=
  '0' :: 'x' :: (List.range digits).map fun j => hexChar (n / 16 ^ (digits - 1 - j) % 16)

/-- R92: a packet in a listing, `CW A B`. DESIGN CHOICE (log 9): the digits, 8, 16 and 16 of them, and their case. -/
def listing (p : Packet) : List Char :=
  hexText 8 p.cw.toNat ++ [' '] ++ hexText 16 p.ops.a.toNat ++ [' '] ++ hexText 16 p.ops.b.toNat

end Sys2Proof.Machine
end

