-- ==== Sys2Proof/Safety.lean ====
section
/-!
DEFINITION. The terms in which claims about the machine are stated: running a list of instructions, the commands of a
hashing unit by name, the invariants of spec/10_state.md R23, R24, R32, R33 and R36, the state with the hidden cache
forgotten (R32), and what a safe run is.
-/

namespace Sys2Proof.Machine

/-! ## Runs -/

/-- Execute instructions in order, stopping at the first that does not answer a next state. -/
def execAll : List Instr → State → Result
  | [], s => .next s
  | i :: is, s =>
    match exec i s with
    | .next t => execAll is t
    | .fault r => .fault r
    | .refused r => .refused r

/-- A run of `k` steps is safe when it does not stop: the block's own faults are next states. -/
def SafeRun (k : Nat) (s : State) : Prop := ∃ t : State, Sys2Proof.core.run k s = .next t

/-! ## The commands of a hashing unit -/

/-- `INIT.k`. -/
def initOf : HashUnit → Operands → Instr
  | .fnv32, op => .initFnv32 op
  | .fnv64, op => .initFnv64 op
  | .fnvj32, op => .initFnvj32 op
  | .fnvj64, op => .initFnvj64 op
  | .m3a, op => .initM3a op
  | .m3f, op => .initM3f op

/-- `RESET.k`. -/
def resetOf : HashUnit → Operands → Instr
  | .fnv32, op => .resetFnv32 op
  | .fnv64, op => .resetFnv64 op
  | .fnvj32, op => .resetFnvj32 op
  | .fnvj64, op => .resetFnvj64 op
  | .m3a, op => .resetM3a op
  | .m3f, op => .resetM3f op

/-- `UPDB.k`. -/
def updbOf : HashUnit → Byte → Operands → Instr
  | .fnv32, b, op => .updbFnv32 b op
  | .fnv64, b, op => .updbFnv64 b op
  | .fnvj32, b, op => .updbFnvj32 b op
  | .fnvj64, b, op => .updbFnvj64 b op
  | .m3a, b, op => .updbM3a b op
  | .m3f, b, op => .updbM3f b op

/-- `UPDR.k`. -/
def updrOf : HashUnit → Operands → Instr
  | .fnv32, op => .updrFnv32 op
  | .fnv64, op => .updrFnv64 op
  | .fnvj32, op => .updrFnvj32 op
  | .fnvj64, op => .updrFnvj64 op
  | .m3a, op => .updrM3a op
  | .m3f, op => .updrM3f op

/-- `GETV.k`. -/
def getvOf : HashUnit → Operands → Instr
  | .fnv32, op => .getvFnv32 op
  | .fnv64, op => .getvFnv64 op
  | .fnvj32, op => .getvFnvj32 op
  | .fnvj64, op => .getvFnvj64 op
  | .m3a, op => .getvM3a op
  | .m3f, op => .getvM3f op

/-- The stored seed of a unit, zero-extended. -/
def seedOf : HashUnit → State → Word64
  | .fnv32, s => s.u0.seed.setWidth 64
  | .fnv64, s => s.u1.seed
  | .fnvj32, s => s.u2.seed.setWidth 64
  | .fnvj64, s => s.u3.seed
  | .m3a, s => s.u4.seed.setWidth 64
  | .m3f, s => s.u5.seed.setWidth 64

/-! ## Ways of delivering bytes (R128) -/

/-- One update command of a stream: a single byte, or a range of the buffer. -/
inductive Piece where
  /-- `UPDB`. -/
  | byte (b : Byte)
  /-- `UPDR`, with its offset and length. -/
  | range (op : Operands)
deriving DecidableEq, Repr

/-- The bytes a piece delivers. -/
def Piece.bytes (m : Memory) : Piece → List Byte
  | .byte b => [b]
  | .range op => memRead m (addrOf op) (countOf op)

/-- The range of the piece lies inside the buffer. -/
def Piece.fits (m : Memory) : Piece → Bool
  | .byte _ => true
  | .range op => inBounds m (addrOf op) (countOf op)

/-- The command that delivers a piece to a hashing unit. -/
def Piece.toUnit (k : HashUnit) : Piece → Instr
  | .byte b => updbOf k b ⟨0#64, 0#64⟩
  | .range op => updrOf k op

/-- The command that delivers a piece to the packer. -/
def Piece.toPacker : Piece → Instr
  | .byte b => .updbCmb b ⟨0#64, 0#64⟩
  | .range op => .updrCmb op

/-! ## The checks of R90, as conditions on the packet in the numbers of R82 to R88

Written from the fault rules R286 to R289 and R282, apart from the decoder, so that the two can be compared. -/

/-- R286: `OP` is one of the 19 defined opcodes. -/
def definedOp (p : Packet) : Bool :=
  [0x01, 0x02, 0x03, 0x04, 0x05, 0x06, 0x07, 0x08, 0x09, 0x0A, 0x10, 0x11, 0x12, 0x14, 0x15, 0x16, 0x20, 0x21,
    0x30].contains (p.cw.extractLsb' 24 8).toNat

/-- R84: the units on which an opcode is legal. -/
def legalUnitNumbers (op : Nat) : List Nat :=
  if op = 0x01 then [0, 1, 2, 3, 4, 5]
  else if op = 0x02 ∨ op = 0x03 ∨ op = 0x04 ∨ op = 0x05 then [0, 1, 2, 3, 4, 5, 6]
  else if 0x06 ≤ op ∧ op ≤ 0x0A then [5]
  else if op = 0x10 ∨ op = 0x11 ∨ op = 0x14 ∨ op = 0x15 ∨ op = 0x16 then [4]
  else if op = 0x12 then [4, 5]
  else if op = 0x20 ∨ op = 0x21 then [7]
  else if op = 0x30 then [6]
  else []

/-- R287: `UNIT` is in the legal set of `OP`. -/
def legalPair (p : Packet) : Bool :=
  (legalUnitNumbers (p.cw.extractLsb' 24 8).toNat).contains (p.cw.extractLsb' 20 4).toNat

/-- R288: the word has one of the field errors, given that the pair is legal. -/
def fieldError (p : Packet) : Bool :=
  let op := (p.cw.extractLsb' 24 8).toNat
  let unit := (p.cw.extractLsb' 20 4).toNat
  let imm := p.cw.extractLsb' 0 8
  let s1 := (imm.extractLsb' 0 3).toNat
  let s2 := (imm.extractLsb' 4 3).toNat
  decide (p.cw.extractLsb' 18 2 ≠ 0#2) || decide (p.cw.extractLsb' 8 8 ≠ 0#8)
    || (p.cw.getLsbD 17 && !([0x14, 0x15, 0x16].contains op))
    || (p.cw.getLsbD 16 && !([0x20, 0x21].contains op || decide (op = 0x12 ∧ unit = 5)))
    || decide (imm ≠ 0#8 ∧ op ≠ 0x03 ∧ op ≠ 0x30)
    || (decide (op = 0x30)
      && (imm.getLsbD 3 || imm.getLsbD 7 || decide (5 < s1) || decide (5 < s2) || decide (s1 = s2)))

/-- R289: a contract command to the packer. -/
def needsBinding (p : Packet) : Bool :=
  decide ((p.cw.extractLsb' 20 4).toNat = 6 ∧ (p.cw.extractLsb' 24 8).toNat ≠ 0x30)

/-- R282: the address just after the last byte a command reads, 0 for a command that reads no memory. -/
def rangeEnd (p : Packet) : Nat :=
  let op := (p.cw.extractLsb' 24 8).toNat
  let a := p.ops.a.toNat
  let b := p.ops.b.toNat
  if op = 0x04 then a + b
  else if op = 0x20 then a + 4
  else if op = 0x21 then a + 8
  else if p.cw.getLsbD 17 then 0
  else if op = 0x14 then a + 2 * b
  else if op = 0x15 then a + 4 * b
  else if op = 0x16 then a + 8 * b
  else 0

/-- The fault registers after a fault: the status word and the packet as presented. -/
def recorded (status : Word32) (p : Packet) : FaultRegs := ⟨status, p.cw, p.ops.a, p.ops.b⟩

/-! ## Invariants -/

/-- R23, R24, R281: no fault taken and the fault registers zero, or the status word of one of the five faults. -/
abbrev FaultInv (f : FaultRegs) : Prop :=
  f = ⟨0#32, 0#32, 0#64, 0#64⟩ ∨ f.status ∈ [0x11#32, 0x21#32, 0x31#32, 0x41#32, 0x51#32]

/-- R36 (a), (b) for unit 2: `PPOS = LEN mod 4`, and below its `PPOS` top bytes `PW` is zero. -/
abbrev Fnvj32Inv (u : Fnvj32Regs) : Prop :=
  u.ppos.toNat = u.len.toNat % 4 ∧ u.pw <<< (8 * u.ppos.toNat) = 0#32

/-- R36 (a), (b) for unit 3. -/
abbrev Fnvj64Inv (u : Fnvj64Regs) : Prop :=
  u.ppos.toNat = u.len.toNat % 8 ∧ u.pw <<< (8 * u.ppos.toNat) = 0#64

/-- R36 (a), (c) for unit 4: `PPOS = LEN mod 4`, and above its `PPOS` low bytes `PK1` is zero. -/
abbrev M3aInv (u : M3aRegs) : Prop :=
  u.ppos.toNat = u.len.toNat % 4 ∧ u.pk1 >>> (8 * u.ppos.toNat) = 0#32

/-- R36 (a), (d) for unit 5: `PPOS = LEN mod 16`; `PK1` is zero above its first `min(PPOS, 8)` bytes and `PK2` above
its first `PPOS - 8`. -/
abbrev M3fInv (u : M3fRegs) : Prop :=
  u.ppos.toNat = u.len.toNat % 16 ∧ u.pk1 >>> (8 * min u.ppos.toNat 8) = 0#64
    ∧ u.pk2 >>> (8 * (u.ppos.toNat - 8)) = 0#64

/-- R32, R241: a valid cache holds the finalised lanes of the current registers. -/
abbrev CacheInv (u : M3fRegs) : Prop := u.finv = true → (u.finlo, u.finhi) = m3fFinal u

/-- R33: bound to two different units, or unbound with both selectors 0. -/
abbrev PackerInv (u : CmbRegs) : Prop :=
  (u.bound = true → u.sel1 ≠ u.sel2) ∧ (u.bound = false → u.sel1 = .fnv32 ∧ u.sel2 = .fnv32)

/-- All of them, and the canonical form of the memory. -/
abbrev State.Inv (s : State) : Prop :=
  FaultInv s.flt ∧ Fnvj32Inv s.u2 ∧ Fnvj64Inv s.u3 ∧ M3aInv s.u4 ∧ M3fInv s.u5 ∧ CacheInv s.u5 ∧ PackerInv s.u6
    ∧ s.mem.wf = true

/-! ## The hidden cache -/

/-- The state with the finalized cache of unit 5 forgotten: what a model without it would hold (R32). -/
def forgetCache (s : State) : State := s.setU5 { s.u5 with finv := false, finlo := 0#64, finhi := 0#64 }

end Sys2Proof.Machine
end

