-- ==== Sys2Proof/Certificates/Slice0/Obligations.lean ====
section
/-!
DEFINITION. The statements for the provers. Each docstring names the rules of spec/ the statement formalises; basis,
tier and citations are in OBLIGATIONS.json. Words, constants and formulas are written out from the rules, apart from
the definitions of the model, wherever a rule gives them.
-/

open Sys2Proof Sys2Proof.Machine

/-- O1, R81, R82, R83, R84, R94. Decoding the packet of an instruction gives the instruction back. -/
def Obligations.DecodeOfEncode : Prop :=
  ∀ i : Instr, decode (encode i) = .ok i

/-- O2, R81, R88, R90, R94. Every packet the decoder accepts is the encoding of the instruction it gives. -/
def Obligations.EncodeOfDecode : Prop :=
  ∀ (p : Packet) (i : Instr), decode p = .ok i → encode i = p

/-- O3, R95. The worked encodings of R95 decode to the instructions they stand for. -/
def Obligations.SpecWordsDecode : Prop :=
  decode ⟨0x03000061#32, ⟨0#64, 0#64⟩⟩ = .ok (.updbFnv32 0x61#8 ⟨0#64, 0#64⟩)
    ∧ decode ⟨0x04300000#32, ⟨0#64, 16#64⟩⟩ = .ok (.updrFnvj64 ⟨0#64, 16#64⟩)
    ∧ (∀ v : Word64, decode ⟨0x12510000#32, ⟨v, 0#64⟩⟩ = .ok (.upd64M3f true ⟨v, 0#64⟩))
    ∧ decode ⟨0x15420000#32, ⟨0#64, 0#64⟩⟩ = .ok (.upda32M3a true ⟨0#64, 0#64⟩)
    ∧ decode ⟨0x30600040#32, ⟨0#64, 0#64⟩⟩ = .ok (.bindCmb 0#3 4#3 ⟨0#64, 0#64⟩)
    ∧ decode ⟨0x21710000#32, ⟨3#64, 0#64⟩⟩ = .ok (.rd64Bor true ⟨3#64, 0#64⟩)

/-- O4, R90, R290. The checks of R90 in their order decide the fault of every packet. -/
def Obligations.DecodeOrder : Prop :=
  ∀ (p : Packet) (s : State),
    (s.faulted = true → runPacket p s = .next s)
    ∧ (s.faulted = false →
      if definedOp p = false then runPacket p s = .next { s with flt := recorded 0x21#32 p }
      else if legalPair p = false then runPacket p s = .next { s with flt := recorded 0x31#32 p }
      else if fieldError p = true then runPacket p s = .next { s with flt := recorded 0x41#32 p }
      else if needsBinding p = true ∧ s.u6.bound = false then
        runPacket p s = .next { s with flt := recorded 0x51#32 p }
      else if s.mem.size < rangeEnd p then runPacket p s = .next { s with flt := recorded 0x11#32 p }
      else ∃ t : State, runPacket p s = .next t ∧ t.flt = s.flt)

/-- O5, R286. ILLEGAL_OP is raised exactly for the opcodes that are not defined. -/
def Obligations.IllegalOpRaised : Prop :=
  ∀ (p : Packet) (s : State),
    (decode p = .error .illegalOp ↔
      (p.cw.extractLsb' 24 8) ∉ [0x01#8, 0x02#8, 0x03#8, 0x04#8, 0x05#8, 0x06#8, 0x07#8, 0x08#8, 0x09#8, 0x0A#8, 0x10#8,
        0x11#8, 0x12#8, 0x14#8, 0x15#8, 0x16#8, 0x20#8, 0x21#8, 0x30#8])
    ∧ (s.faulted = false → decode p = .error .illegalOp →
      runPacket p s = .next { s with flt := ⟨0x21#32, p.cw, p.ops.a, p.ops.b⟩ })

/-- O6, R287. ILLEGAL_UNIT is raised exactly for a defined opcode on a unit R84 does not list for it. -/
def Obligations.IllegalUnitRaised : Prop :=
  ∀ (p : Packet) (s : State), definedOp p = true →
    (decode p = .error .illegalUnit ↔ (p.cw.extractLsb' 20 4).toNat ∉ legalUnitNumbers (p.cw.extractLsb' 24 8).toNat)
    ∧ (s.faulted = false → decode p = .error .illegalUnit →
      runPacket p s = .next { s with flt := ⟨0x31#32, p.cw, p.ops.a, p.ops.b⟩ })

/-- O7, R288. ILLEGAL_FIELD is raised exactly for the field errors of R288 on a legal pair. -/
def Obligations.IllegalFieldRaised : Prop :=
  ∀ (p : Packet) (s : State), s.faulted = false → definedOp p = true → legalPair p = true →
    (fieldError p = true → runPacket p s = .next { s with flt := ⟨0x41#32, p.cw, p.ops.a, p.ops.b⟩ })
    ∧ (fieldError p = false → ∃ i : Instr, decode p = .ok i ∧ i.wellFormed = true)

/-- O8, R289. UNBOUND is raised by the four contract commands to an unbound packer. -/
def Obligations.UnboundRaised : Prop :=
  ∀ (s : State) (b : Byte) (op : Operands), s.faulted = false → s.u6.bound = false →
    exec (.resetCmb op) s = .next { s with flt := ⟨0x51#32, 0x02600000#32, op.a, op.b⟩ }
    ∧ exec (.updbCmb b op) s = .next { s with flt := ⟨0x51#32, 0x03600000#32 ||| b.setWidth 32, op.a, op.b⟩ }
    ∧ exec (.updrCmb op) s = .next { s with flt := ⟨0x51#32, 0x04600000#32, op.a, op.b⟩ }
    ∧ exec (.getvCmb op) s = .next { s with flt := ⟨0x51#32, 0x05600000#32, op.a, op.b⟩ }

/-- O9, R282. BOUNDS is raised exactly when the range ends beyond the buffer. -/
def Obligations.BoundsRaised : Prop :=
  ∀ (s : State) (e : Bool) (op : Operands), s.faulted = false →
    (if s.mem.size < op.a.toNat + op.b.toNat then
        exec (.updrFnv32 op) s = .next { s with flt := ⟨0x11#32, 0x04000000#32, op.a, op.b⟩ }
      else ∃ t : State, exec (.updrFnv32 op) s = .next t ∧ t.flt = s.flt)
    ∧ (if s.mem.size < op.a.toNat + op.b.toNat then
        exec (.updrFnv64 op) s = .next { s with flt := ⟨0x11#32, 0x04100000#32, op.a, op.b⟩ }
      else ∃ t : State, exec (.updrFnv64 op) s = .next t ∧ t.flt = s.flt)
    ∧ (if s.mem.size < op.a.toNat + op.b.toNat then
        exec (.updrFnvj32 op) s = .next { s with flt := ⟨0x11#32, 0x04200000#32, op.a, op.b⟩ }
      else ∃ t : State, exec (.updrFnvj32 op) s = .next t ∧ t.flt = s.flt)
    ∧ (if s.mem.size < op.a.toNat + op.b.toNat then
        exec (.updrFnvj64 op) s = .next { s with flt := ⟨0x11#32, 0x04300000#32, op.a, op.b⟩ }
      else ∃ t : State, exec (.updrFnvj64 op) s = .next t ∧ t.flt = s.flt)
    ∧ (if s.mem.size < op.a.toNat + op.b.toNat then
        exec (.updrM3a op) s = .next { s with flt := ⟨0x11#32, 0x04400000#32, op.a, op.b⟩ }
      else ∃ t : State, exec (.updrM3a op) s = .next t ∧ t.flt = s.flt)
    ∧ (if s.mem.size < op.a.toNat + op.b.toNat then
        exec (.updrM3f op) s = .next { s with flt := ⟨0x11#32, 0x04500000#32, op.a, op.b⟩ }
      else ∃ t : State, exec (.updrM3f op) s = .next t ∧ t.flt = s.flt)
    ∧ (s.u6.bound = true →
      if s.mem.size < op.a.toNat + op.b.toNat then
        exec (.updrCmb op) s = .next { s with flt := ⟨0x11#32, 0x04600000#32, op.a, op.b⟩ }
      else ∃ t : State, exec (.updrCmb op) s = .next t ∧ t.flt = s.flt)
    ∧ (if s.mem.size < op.a.toNat + 2 * op.b.toNat then
        exec (.upda16M3a false op) s = .next { s with flt := ⟨0x11#32, 0x14400000#32, op.a, op.b⟩ }
      else ∃ t : State, exec (.upda16M3a false op) s = .next t ∧ t.flt = s.flt)
    ∧ exec (.upda16M3a true op) s = .next s
    ∧ (if s.mem.size < op.a.toNat + 4 * op.b.toNat then
        exec (.upda32M3a false op) s = .next { s with flt := ⟨0x11#32, 0x15400000#32, op.a, op.b⟩ }
      else ∃ t : State, exec (.upda32M3a false op) s = .next t ∧ t.flt = s.flt)
    ∧ exec (.upda32M3a true op) s = .next s
    ∧ (if s.mem.size < op.a.toNat + 8 * op.b.toNat then
        exec (.upda64M3a false op) s = .next { s with flt := ⟨0x11#32, 0x16400000#32, op.a, op.b⟩ }
      else ∃ t : State, exec (.upda64M3a false op) s = .next t ∧ t.flt = s.flt)
    ∧ exec (.upda64M3a true op) s = .next s
    ∧ (if s.mem.size < op.a.toNat + 4 then
        exec (.rd32Bor e op) s =
          .next { s with flt := ⟨0x11#32, 0x20700000#32 ||| (BitVec.ofBool e).setWidth 32 <<< 16, op.a, op.b⟩ }
      else ∃ t : State, exec (.rd32Bor e op) s = .next t ∧ t.flt = s.flt)
    ∧ (if s.mem.size < op.a.toNat + 8 then
        exec (.rd64Bor e op) s =
          .next { s with flt := ⟨0x11#32, 0x21700000#32 ||| (BitVec.ofBool e).setWidth 32 <<< 16, op.a, op.b⟩ }
      else ∃ t : State, exec (.rd64Bor e op) s = .next t ∧ t.flt = s.flt)

/-- O10, R283, R284. A command either raises no fault or changes the fault registers only, as fault entry says. -/
def Obligations.FaultEntryRecords : Prop :=
  ∀ (p : Packet) (s : State), s.faulted = false → ∃ t : State, runPacket p s = .next t
    ∧ ((t.faulted = false ∧ t.flt = s.flt)
      ∨ ∃ code ∈ [1#32, 2#32, 3#32, 4#32, 5#32], t = { s with flt := ⟨code <<< 4 ||| 1#32, p.cw, p.ops.a, p.ops.b⟩ })

/-- O11, R285. While a fault is recorded no packet has any effect, and only hardware reset clears it. -/
def Obligations.FaultIsSticky : Prop :=
  ∀ s : State, s.faulted = true →
    (∀ p : Packet, runPacket p s = .next s) ∧ (∀ i : Instr, exec i s = .next s)
    ∧ (∀ t : State, step s = .next t → t.faulted = false → ∃ rest, s.host = .hardwareReset :: rest)
    ∧ (∀ rest, s.host = .hardwareReset :: rest → ∃ t : State, step s = .next t ∧ t.faulted = false)
    ∧ readPort 0 s = s.flt.status.setWidth 64 ∧ readPort 1 s = s.flt.fcw.setWidth 64 ∧ readPort 2 s = s.flt.fa
    ∧ readPort 3 s = s.flt.fb ∧ readPort 4 s = s.res.r0 ∧ readPort 5 s = s.res.r1 ∧ readPort 6 s = s.res.r2
    ∧ readPort 7 s = s.res.r3

/-- O12, R21, R285. After a fault a run over any number of packets changes nothing. -/
def Obligations.FaultedRunOnlyConsumesPackets : Prop :=
  ∀ (k : Nat) (s : State), s.faulted = true → (∀ ev ∈ s.host, ∃ p : Packet, ev = .packet p) →
    Sys2Proof.core.run k s = .next { s with host := s.host.drop k }

/-- O13, R61, R121, R131. Every command completes in every state and leaves the buffer alone. -/
def Obligations.CommandsCompleteAndLeaveMemory : Prop :=
  ∀ (i : Instr) (s : State), ∃ t : State, exec i s = .next t ∧ t.mem = s.mem ∧ t.host = s.host

/-- O14, R20, R80, R90, R285. A step runs the decoded instruction of the oldest pending packet. -/
def Obligations.StepRunsDecodedInstruction : Prop :=
  ∀ (s : State) (p : Packet) (rest : List HostEvent), s.host = .packet p :: rest →
    (s.faulted = false → ∀ i : Instr, decode p = .ok i → step s = exec i { s with host := rest })
    ∧ (s.faulted = false → ∀ code : FaultCode, decode p = .error code →
      step s = .next { s with host := rest, flt := ⟨statusOf code, p.cw, p.ops.a, p.ops.b⟩ })
    ∧ (s.faulted = true → step s = .next { s with host := rest })

/-- O15, R61, R70, R298, R310, R313. A step with no event is idle; host writes and hardware reset do what the spec says
of them. That a host write outside the buffer stops the model is the choice of log 5, no rule of the spec; that the
three happen as events of the step is log 3. -/
def Obligations.StepHostEvents : Prop :=
  ∀ s : State,
    (s.host = [] → step s = .next s)
    ∧ (∀ (addr : Nat) (b : Byte) (rest : List HostEvent), s.mem.wf = true → s.host = .bufWrite addr b :: rest →
      if addr < s.mem.size then
        ∃ m : Memory, step s = .next { s with mem := m, host := rest } ∧ m.size = s.mem.size
          ∧ ∀ x : Nat, m.byteAt x = if x = addr then b else s.mem.byteAt x
      else step s = .fault (.hostWriteOutsideBuf addr))
    ∧ (∀ rest : List HostEvent, s.host = .hardwareReset :: rest →
      step s = .next { State.reset with mem := s.mem, host := rest })

/-- O16, R22, R23, R24, R26, R27, R28, R29, R30, R31, R32, R33, R39. Hardware reset leaves every register at the value
of the summary table. -/
def Obligations.HardwareResetValues : Prop :=
  ∀ s : State, s = State.reset ∨ (∃ s0 : State, s = hardwareReset s0) →
    s.res = ⟨0#64, 0#64, 0#64, 0#64⟩ ∧ s.flt = ⟨0#32, 0#32, 0#64, 0#64⟩
    ∧ s.u0 = { seed := 0#32, acc := 0x811C9DC5#32 } ∧ s.u1 = { seed := 0#64, acc := 0xCBF29CE484222325#64 }
    ∧ s.u2 = { seed := 0#32, acc := 0x811C9DC5#32, len := 0#32, pw := 0#32, ppos := 0#2 }
    ∧ s.u3 = { seed := 0#64, acc := 0xCBF29CE484222325#64, len := 0#64, pw := 0#64, ppos := 0#3 }
    ∧ s.u4 = { seed := 0#32, h1 := 0#32, len := 0#32, pk1 := 0#32, ppos := 0#2 }
    ∧ s.u5 = { seed := 0#32, h1 := 0#64, h2 := 0#64, len := 0#64, pk1 := 0#64, pk2 := 0#64, ppos := 0#4,
               finv := false, finlo := 0#64, finhi := 0#64 }
    ∧ s.u6.bound = false ∧ selectorOf s.u6.sel1 = 0#3 ∧ selectorOf s.u6.sel2 = 0#3

/-- O17, R33, R36, R241. The invariant of the model holds after hardware reset. -/
def Obligations.InvAtReset : Prop :=
  State.reset.Inv

/-- O18, R23, R33, R36, R241, R262. Every step keeps the invariant of the model. -/
def Obligations.StepKeepsInv : Prop :=
  ∀ s t : State, s.Inv → step s = .next t → t.Inv

/-- O19, R22. Only the value and read commands write result registers, and only those their rules name. -/
def Obligations.ResultRegistersWrittenByValueCommandsOnly : Prop :=
  ∀ (i : Instr) (s t : State), exec i s = .next t →
    match i with
    | .getvFnv32 _ | .getvFnv64 _ | .getvFnvj32 _ | .getvFnvj64 _ | .getvM3a _ | .getvM3f _ | .getvCmb _ | .getvhM3f _
    | .rd32Bor _ _ | .rd64Bor _ _ => t.res.r1 = s.res.r1 ∧ t.res.r2 = s.res.r2 ∧ t.res.r3 = s.res.r3
    | .get128M3f _ | .getbeM3f _ | .getleM3f _ => t.res.r2 = s.res.r2 ∧ t.res.r3 = s.res.r3
    | .gethexM3f _ => True
    | _ => t.res = s.res

/-- O20, R22. No command reads a result register. -/
def Obligations.NoCommandReadsResultRegisters : Prop :=
  ∀ (i : Instr) (s : State) (x : ResultRegs), ∃ t t' : State,
    exec i s = .next t ∧ exec i { s with res := x } = .next t' ∧ { t' with res := t.res } = t
    ∧ (t'.res.r0 = t.res.r0 ∨ (t.res.r0 = s.res.r0 ∧ t'.res.r0 = x.r0))
    ∧ (t'.res.r1 = t.res.r1 ∨ (t.res.r1 = s.res.r1 ∧ t'.res.r1 = x.r1))
    ∧ (t'.res.r2 = t.res.r2 ∨ (t.res.r2 = s.res.r2 ∧ t'.res.r2 = x.r2))
    ∧ (t'.res.r3 = t.res.r3 ∨ (t.res.r3 = s.res.r3 ∧ t'.res.r3 = x.r3))

/-- O21, R35. A seed changes only by INIT of its unit and by hardware reset. -/
def Obligations.SeedsChangeOnlyByInit : Prop :=
  (∀ (i : Instr) (s t : State), exec i s = .next t →
    ((∀ op, i ≠ .initFnv32 op) → t.u0.seed = s.u0.seed) ∧ ((∀ op, i ≠ .initFnv64 op) → t.u1.seed = s.u1.seed)
    ∧ ((∀ op, i ≠ .initFnvj32 op) → t.u2.seed = s.u2.seed) ∧ ((∀ op, i ≠ .initFnvj64 op) → t.u3.seed = s.u3.seed)
    ∧ ((∀ op, i ≠ .initM3a op) → t.u4.seed = s.u4.seed) ∧ ((∀ op, i ≠ .initM3f op) → t.u5.seed = s.u5.seed))
  ∧ (∀ (k : HashUnit) (op : Operands) (s : State), s.faulted = false → ∃ t : State, exec (initOf k op) s = .next t
    ∧ seedOf k t = (match k with
      | .fnv64 | .fnvj64 => op.a
      | _ => op.a &&& 0x00000000FFFFFFFF#64))
  ∧ (∀ (k : HashUnit) (s : State), seedOf k (hardwareReset s) = 0#64)

/-- O22, R33, R262, R267. The binding changes only by a legal BIND and is cleared by hardware reset only. -/
def Obligations.BindingChangesOnlyByBind : Prop :=
  (∀ (i : Instr) (s t : State), exec i s = .next t →
    ((∀ s1 s2 op, i ≠ .bindCmb s1 s2 op) → t.u6 = s.u6)
    ∧ (t.u6 = s.u6 ∨ (t.u6.bound = true ∧ t.u6.sel1 ≠ t.u6.sel2)) ∧ (s.u6.bound = true → t.u6.bound = true))
  ∧ ∀ s : State, (hardwareReset s).u6.bound = false

/-- O23, R143, R144, R147. INIT.FNV32, RESET.FNV32 and GETV.FNV32: words, effects and what they leave alone. -/
def Obligations.Fnv32Construction : Prop :=
  ∀ (s : State) (op : Operands), s.faulted = false →
    decode ⟨0x01000000#32, op⟩ = .ok (.initFnv32 op)
    ∧ exec (.initFnv32 op) s = .next { s with u0 := ⟨op.a.setWidth 32, 0x811C9DC5#32 ^^^ op.a.setWidth 32⟩ }
    ∧ decode ⟨0x02000000#32, op⟩ = .ok (.resetFnv32 op)
    ∧ exec (.resetFnv32 op) s = .next { s with u0 := { s.u0 with acc := 0x811C9DC5#32 ^^^ s.u0.seed } }
    ∧ decode ⟨0x05000000#32, op⟩ = .ok (.getvFnv32 op)
    ∧ exec (.getvFnv32 op) s = .next { s with res := { s.res with r0 := s.u0.acc.setWidth 64 } }

/-- O24, R145, R146. UPDB.FNV32 and UPDR.FNV32: XOR then multiply, byte by byte, after one bounds check. -/
def Obligations.Fnv32Updates : Prop :=
  ∀ (s : State) (b : Byte) (op : Operands), s.faulted = false →
    decode ⟨0x03000000#32 ||| b.setWidth 32, op⟩ = .ok (.updbFnv32 b op)
    ∧ exec (.updbFnv32 b op) s = .next { s with u0 := { s.u0 with
        acc := (s.u0.acc ^^^ b.setWidth 32) * 0x01000193#32 } }
    ∧ decode ⟨0x04000000#32, op⟩ = .ok (.updrFnv32 op)
    ∧ (op.a.toNat + op.b.toNat ≤ s.mem.size → exec (.updrFnv32 op) s = .next { s with u0 := { s.u0 with
        acc := (List.range op.b.toNat).foldl
          (fun acc i => (acc ^^^ (s.mem.byteAt (op.a.toNat + i)).setWidth 32) * 0x01000193#32) s.u0.acc } })
    ∧ (s.mem.size < op.a.toNat + op.b.toNat →
      exec (.updrFnv32 op) s = .next { s with flt := ⟨0x11#32, 0x04000000#32, op.a, op.b⟩ })

/-- O25, R151, R152, R155. INIT.FNV64, RESET.FNV64 and GETV.FNV64: words, effects and what they leave alone. -/
def Obligations.Fnv64Construction : Prop :=
  ∀ (s : State) (op : Operands), s.faulted = false →
    decode ⟨0x01100000#32, op⟩ = .ok (.initFnv64 op)
    ∧ exec (.initFnv64 op) s = .next { s with u1 := ⟨op.a, 0xCBF29CE484222325#64 ^^^ op.a⟩ }
    ∧ decode ⟨0x02100000#32, op⟩ = .ok (.resetFnv64 op)
    ∧ exec (.resetFnv64 op) s = .next { s with u1 := { s.u1 with acc := 0xCBF29CE484222325#64 ^^^ s.u1.seed } }
    ∧ decode ⟨0x05100000#32, op⟩ = .ok (.getvFnv64 op)
    ∧ exec (.getvFnv64 op) s = .next { s with res := { s.res with r0 := s.u1.acc } }

/-- O26, R153, R154. UPDB.FNV64 and UPDR.FNV64: XOR then multiply, byte by byte, after one bounds check. -/
def Obligations.Fnv64Updates : Prop :=
  ∀ (s : State) (b : Byte) (op : Operands), s.faulted = false →
    decode ⟨0x03100000#32 ||| b.setWidth 32, op⟩ = .ok (.updbFnv64 b op)
    ∧ exec (.updbFnv64 b op) s = .next { s with u1 := { s.u1 with
        acc := (s.u1.acc ^^^ b.setWidth 64) * 0x00000100000001B3#64 } }
    ∧ decode ⟨0x04100000#32, op⟩ = .ok (.updrFnv64 op)
    ∧ (op.a.toNat + op.b.toNat ≤ s.mem.size → exec (.updrFnv64 op) s = .next { s with u1 := { s.u1 with
        acc := (List.range op.b.toNat).foldl
          (fun acc i => (acc ^^^ (s.mem.byteAt (op.a.toNat + i)).setWidth 64) * 0x00000100000001B3#64) s.u1.acc } })
    ∧ (s.mem.size < op.a.toNat + op.b.toNat →
      exec (.updrFnv64 op) s = .next { s with flt := ⟨0x11#32, 0x04100000#32, op.a, op.b⟩ })

/-- O27, R166, R167, R161. INIT.FNVJ32 and RESET.FNVJ32: words, effects and what they leave alone. -/
def Obligations.Fnvj32Construction : Prop :=
  ∀ (s : State) (op : Operands), s.faulted = false →
    decode ⟨0x01200000#32, op⟩ = .ok (.initFnvj32 op)
    ∧ exec (.initFnvj32 op) s = .next { s with
        u2 := ⟨op.a.setWidth 32, 0x811C9DC5#32 ^^^ op.a.setWidth 32, 0#32, 0#32, 0#2⟩ }
    ∧ decode ⟨0x02200000#32, op⟩ = .ok (.resetFnvj32 op)
    ∧ exec (.resetFnvj32 op) s = .next { s with
        u2 := ⟨s.u2.seed, 0x811C9DC5#32 ^^^ s.u2.seed, 0#32, 0#32, 0#2⟩ }

/-- O28, R162, R168, R169. UPDB.FNVJ32 and UPDR.FNVJ32: the big-endian partial word, multiply then XOR when it
completes. -/
def Obligations.Fnvj32Updates : Prop :=
  let byteStep := fun (u : Fnvj32Regs) (b : Byte) =>
    let pw := u.pw ||| b.setWidth 32 <<< (8 * (3 - u.ppos.toNat))
    if u.ppos = 3#2 then
      ({ u with acc := u.acc * 0x01000193#32 ^^^ pw, len := u.len + 1#32, pw := 0#32, ppos := 0#2 } : Fnvj32Regs)
    else { u with len := u.len + 1#32, pw := pw, ppos := u.ppos + 1#2 }
  ∀ (s : State) (b : Byte) (op : Operands), s.faulted = false →
    decode ⟨0x03200000#32 ||| b.setWidth 32, op⟩ = .ok (.updbFnvj32 b op)
    ∧ exec (.updbFnvj32 b op) s = .next { s with u2 := byteStep s.u2 b }
    ∧ decode ⟨0x04200000#32, op⟩ = .ok (.updrFnvj32 op)
    ∧ (op.a.toNat + op.b.toNat ≤ s.mem.size → exec (.updrFnvj32 op) s = .next { s with
        u2 := (List.range op.b.toNat).foldl (fun u i => byteStep u (s.mem.byteAt (op.a.toNat + i))) s.u2 })
    ∧ (s.mem.size < op.a.toNat + op.b.toNat →
      exec (.updrFnvj32 op) s = .next { s with flt := ⟨0x11#32, 0x04200000#32, op.a, op.b⟩ })

/-- O29, R163, R170. GETV.FNVJ32: the pending partial word folded, then the length. -/
def Obligations.Fnvj32Value : Prop :=
  ∀ (s : State) (op : Operands), s.faulted = false →
    let a := if s.u2.ppos = 0#2 then s.u2.acc else s.u2.acc * 0x01000193#32 ^^^ s.u2.pw
    let f := (a * 0x01000193#32 ^^^ s.u2.len) * 0x01000193#32
    decode ⟨0x05200000#32, op⟩ = .ok (.getvFnvj32 op)
    ∧ exec (.getvFnvj32 op) s = .next { s with res := { s.res with r0 := f.setWidth 64 } }

/-- O30, R174, R175, R171. INIT.FNVJ64 and RESET.FNVJ64: words, effects and what they leave alone. -/
def Obligations.Fnvj64Construction : Prop :=
  ∀ (s : State) (op : Operands), s.faulted = false →
    decode ⟨0x01300000#32, op⟩ = .ok (.initFnvj64 op)
    ∧ exec (.initFnvj64 op) s = .next { s with
        u3 := ⟨op.a, 0xCBF29CE484222325#64 ^^^ op.a, 0#64, 0#64, 0#3⟩ }
    ∧ decode ⟨0x02300000#32, op⟩ = .ok (.resetFnvj64 op)
    ∧ exec (.resetFnvj64 op) s = .next { s with
        u3 := ⟨s.u3.seed, 0xCBF29CE484222325#64 ^^^ s.u3.seed, 0#64, 0#64, 0#3⟩ }

/-- O31, R172, R176, R177. UPDB.FNVJ64 and UPDR.FNVJ64: the big-endian partial word, multiply then XOR when it
completes. -/
def Obligations.Fnvj64Updates : Prop :=
  let byteStep := fun (u : Fnvj64Regs) (b : Byte) =>
    let pw := u.pw ||| b.setWidth 64 <<< (8 * (7 - u.ppos.toNat))
    if u.ppos = 7#3 then
      ({ u with acc := u.acc * 0x00000100000001B3#64 ^^^ pw, len := u.len + 1#64, pw := 0#64, ppos := 0#3 } : Fnvj64Regs)
    else { u with len := u.len + 1#64, pw := pw, ppos := u.ppos + 1#3 }
  ∀ (s : State) (b : Byte) (op : Operands), s.faulted = false →
    decode ⟨0x03300000#32 ||| b.setWidth 32, op⟩ = .ok (.updbFnvj64 b op)
    ∧ exec (.updbFnvj64 b op) s = .next { s with u3 := byteStep s.u3 b }
    ∧ decode ⟨0x04300000#32, op⟩ = .ok (.updrFnvj64 op)
    ∧ (op.a.toNat + op.b.toNat ≤ s.mem.size → exec (.updrFnvj64 op) s = .next { s with
        u3 := (List.range op.b.toNat).foldl (fun u i => byteStep u (s.mem.byteAt (op.a.toNat + i))) s.u3 })
    ∧ (s.mem.size < op.a.toNat + op.b.toNat →
      exec (.updrFnvj64 op) s = .next { s with flt := ⟨0x11#32, 0x04300000#32, op.a, op.b⟩ })

/-- O32, R173, R178. GETV.FNVJ64: the pending partial word folded, then the length. -/
def Obligations.Fnvj64Value : Prop :=
  ∀ (s : State) (op : Operands), s.faulted = false →
    let a := if s.u3.ppos = 0#3 then s.u3.acc else s.u3.acc * 0x00000100000001B3#64 ^^^ s.u3.pw
    let f := (a * 0x00000100000001B3#64 ^^^ s.u3.len) * 0x00000100000001B3#64
    decode ⟨0x05300000#32, op⟩ = .ok (.getvFnvj64 op)
    ∧ exec (.getvFnvj64 op) s = .next { s with res := { s.res with r0 := f } }

/-- O33, R193, R197, R198. INIT.M3A and RESET.M3A: words, effects and what they leave alone. -/
def Obligations.M3aConstruction : Prop :=
  ∀ (s : State) (op : Operands), s.faulted = false →
    decode ⟨0x01400000#32, op⟩ = .ok (.initM3a op)
    ∧ exec (.initM3a op) s = .next { s with
        u4 := ⟨op.a.setWidth 32, op.a.setWidth 32, 0#32, 0#32, 0#2⟩ }
    ∧ decode ⟨0x02400000#32, op⟩ = .ok (.resetM3a op)
    ∧ exec (.resetM3a op) s = .next { s with
        u4 := ⟨s.u4.seed, s.u4.seed, 0#32, 0#32, 0#2⟩ }

/-- O34, R191, R194, R199, R200. UPDB.M3A and UPDR.M3A: the little-endian partial block, mixed into H1 when it
completes. -/
def Obligations.M3aUpdates : Prop :=
  let mix := fun (k : Word32) => (k * 0xCC9E2D51#32).rotateLeft 15 * 0x1B873593#32
  let byteStep := fun (u : M3aRegs) (b : Byte) =>
    let pk1 := u.pk1 ||| b.setWidth 32 <<< (8 * u.ppos.toNat)
    if u.ppos = 3#2 then
      ({ u with
        h1 := (u.h1 ^^^ mix pk1).rotateLeft 13 * 5#32 + 0xE6546B64#32, len := u.len + 1#32, pk1 := 0#32,
        ppos := 0#2 } : M3aRegs)
    else { u with len := u.len + 1#32, pk1 := pk1, ppos := u.ppos + 1#2 }
  ∀ (s : State) (b : Byte) (op : Operands), s.faulted = false →
    decode ⟨0x03400000#32 ||| b.setWidth 32, op⟩ = .ok (.updbM3a b op)
    ∧ exec (.updbM3a b op) s = .next { s with u4 := byteStep s.u4 b }
    ∧ decode ⟨0x04400000#32, op⟩ = .ok (.updrM3a op)
    ∧ (op.a.toNat + op.b.toNat ≤ s.mem.size → exec (.updrM3a op) s = .next { s with
        u4 := (List.range op.b.toNat).foldl (fun u i => byteStep u (s.mem.byteAt (op.a.toNat + i))) s.u4 })
    ∧ (s.mem.size < op.a.toNat + op.b.toNat →
      exec (.updrM3a op) s = .next { s with flt := ⟨0x11#32, 0x04400000#32, op.a, op.b⟩ })

/-- O35, R195, R202. GETV.M3A: the pending block folded, the length, the 32-bit avalanche. -/
def Obligations.M3aValue : Prop :=
  ∀ (s : State) (op : Operands), s.faulted = false →
    let mix := fun (k : Word32) => (k * 0xCC9E2D51#32).rotateLeft 15 * 0x1B873593#32
    let h := (if s.u4.ppos = 0#2 then s.u4.h1 else s.u4.h1 ^^^ mix s.u4.pk1) ^^^ s.u4.len
    let h := (h ^^^ h >>> 16) * 0x85EBCA6B#32
    let h := (h ^^^ h >>> 13) * 0xC2B2AE35#32
    let h := h ^^^ h >>> 16
    decode ⟨0x05400000#32, op⟩ = .ok (.getvM3a op)
    ∧ exec (.getvM3a op) s = .next { s with res := { s.res with r0 := h.setWidth 64 } }

/-- O36, R203, R204, R205. UPD16.M3A, UPD32.M3A and UPD64.M3A feed the bytes of the value, least significant first. -/
def Obligations.M3aTypedUpdates : Prop :=
  ∀ (s : State) (op : Operands), s.faulted = false →
    decode ⟨0x10400000#32, op⟩ = .ok (.upd16M3a op)
    ∧ exec (.upd16M3a op) s = .next { s with
        u4 := m3aByte (op.a.extractLsb' 8 8) (m3aByte (op.a.extractLsb' 0 8) s.u4) }
    ∧ decode ⟨0x11400000#32, op⟩ = .ok (.upd32M3a op)
    ∧ exec (.upd32M3a op) s = .next { s with
        u4 := m3aByte (op.a.extractLsb' 24 8) (m3aByte (op.a.extractLsb' 16 8)
          (m3aByte (op.a.extractLsb' 8 8) (m3aByte (op.a.extractLsb' 0 8) s.u4))) }
    ∧ decode ⟨0x12400000#32, op⟩ = .ok (.upd64M3a op)
    ∧ exec (.upd64M3a op) s = .next { s with
        u4 := (List.range 8).foldl (fun u i => m3aByte (op.a.extractLsb' (8 * i) 8) u) s.u4 }

/-- O37, R206, R207, R208. UPDA16.M3A, UPDA32.M3A and UPDA64.M3A feed the elements in index order. -/
def Obligations.M3aArrayUpdates : Prop :=
  ∀ (s : State) (op : Operands), s.faulted = false →
    decode ⟨0x14400000#32, op⟩ = .ok (.upda16M3a false op)
    ∧ (op.a.toNat + 2 * op.b.toNat ≤ s.mem.size → exec (.upda16M3a false op) s = .next { s with
        u4 := (List.range op.b.toNat).foldl (fun u e => (List.range 2).foldl
          (fun u i => m3aByte ((rd16LE s.mem (op.a.toNat + 2 * e)).extractLsb' (8 * i) 8) u) u) s.u4 })
    ∧ (s.mem.size < op.a.toNat + 2 * op.b.toNat →
      exec (.upda16M3a false op) s = .next { s with flt := ⟨0x11#32, 0x14400000#32, op.a, op.b⟩ })
    ∧ decode ⟨0x14400000#32 ||| 0x00020000#32, op⟩ = .ok (.upda16M3a true op)
    ∧ exec (.upda16M3a true op) s = .next s
    ∧ decode ⟨0x15400000#32, op⟩ = .ok (.upda32M3a false op)
    ∧ (op.a.toNat + 4 * op.b.toNat ≤ s.mem.size → exec (.upda32M3a false op) s = .next { s with
        u4 := (List.range op.b.toNat).foldl (fun u e => (List.range 4).foldl
          (fun u i => m3aByte ((rd32LE s.mem (op.a.toNat + 4 * e)).extractLsb' (8 * i) 8) u) u) s.u4 })
    ∧ (s.mem.size < op.a.toNat + 4 * op.b.toNat →
      exec (.upda32M3a false op) s = .next { s with flt := ⟨0x11#32, 0x15400000#32, op.a, op.b⟩ })
    ∧ decode ⟨0x15400000#32 ||| 0x00020000#32, op⟩ = .ok (.upda32M3a true op)
    ∧ exec (.upda32M3a true op) s = .next s
    ∧ decode ⟨0x16400000#32, op⟩ = .ok (.upda64M3a false op)
    ∧ (op.a.toNat + 8 * op.b.toNat ≤ s.mem.size → exec (.upda64M3a false op) s = .next { s with
        u4 := (List.range op.b.toNat).foldl (fun u e => (List.range 8).foldl
          (fun u i => m3aByte ((rd64LE s.mem (op.a.toNat + 8 * e)).extractLsb' (8 * i) 8) u) u) s.u4 })
    ∧ (s.mem.size < op.a.toNat + 8 * op.b.toNat →
      exec (.upda64M3a false op) s = .next { s with flt := ⟨0x11#32, 0x16400000#32, op.a, op.b⟩ })
    ∧ decode ⟨0x16400000#32 ||| 0x00020000#32, op⟩ = .ok (.upda64M3a true op)
    ∧ exec (.upda64M3a true op) s = .next s

/-- O38, R209. A null array is a no-op for any operands; an empty one makes a bounds check. -/
def Obligations.M3aNullArrays : Prop :=
  ∀ (s : State) (op : Operands),
    exec (.upda16M3a true op) s = .next s ∧ exec (.upda32M3a true op) s = .next s
    ∧ exec (.upda64M3a true op) s = .next s
    ∧ (s.faulted = false → op.b = 0#64 →
      if op.a.toNat ≤ s.mem.size then
        exec (.upda16M3a false op) s = .next s ∧ exec (.upda32M3a false op) s = .next s
        ∧ exec (.upda64M3a false op) s = .next s
      else exec (.upda16M3a false op) s = .next { s with flt := ⟨0x11#32, 0x14400000#32, op.a, op.b⟩ }
        ∧ exec (.upda32M3a false op) s = .next { s with flt := ⟨0x11#32, 0x15400000#32, op.a, op.b⟩ }
        ∧ exec (.upda64M3a false op) s = .next { s with flt := ⟨0x11#32, 0x16400000#32, op.a, op.b⟩ })

/-- O39, R224, R229, R230. INIT.M3F and RESET.M3F: the seed zero-extended into both lanes, the cache invalid. -/
def Obligations.M3fConstruction : Prop :=
  ∀ (s : State) (op : Operands), s.faulted = false →
    decode ⟨0x01500000#32, op⟩ = .ok (.initM3f op)
    ∧ exec (.initM3f op) s = .next { s with
        u5 := ⟨op.a.setWidth 32, op.a &&& 0x00000000FFFFFFFF#64, op.a &&& 0x00000000FFFFFFFF#64, 0#64, 0#64, 0#64, 0#4,
          false, s.u5.finlo, s.u5.finhi⟩ }
    ∧ decode ⟨0x02500000#32, op⟩ = .ok (.resetM3f op)
    ∧ exec (.resetM3f op) s = .next { s with
        u5 := ⟨s.u5.seed, s.u5.seed.setWidth 64, s.u5.seed.setWidth 64, 0#64, 0#64, 0#64, 0#4, false, s.u5.finlo,
          s.u5.finhi⟩ }

/-- O40, R222, R225, R231, R232, R240. UPDB.M3F, UPDR.M3F and UPD64.M3F: the 16-byte block, mixed into both lanes when
it completes. -/
def Obligations.M3fUpdates : Prop :=
  let byteStep := fun (u : M3fRegs) (b : Byte) =>
    let pk1 := if u.ppos.toNat < 8 then u.pk1 ||| b.setWidth 64 <<< (8 * u.ppos.toNat) else u.pk1
    let pk2 := if u.ppos.toNat < 8 then u.pk2 else u.pk2 ||| b.setWidth 64 <<< (8 * (u.ppos.toNat - 8))
    let k1 := (pk1 * 0x87C37B91114253D5#64).rotateLeft 31 * 0x4CF5AD432745937F#64
    let k2 := (pk2 * 0x4CF5AD432745937F#64).rotateLeft 33 * 0x87C37B91114253D5#64
    let h1 := ((u.h1 ^^^ k1).rotateLeft 27 + u.h2) * 5#64 + 0x0000000052DCE729#64
    let h2 := ((u.h2 ^^^ k2).rotateLeft 31 + h1) * 5#64 + 0x0000000038495AB5#64
    if u.ppos = 15#4 then
      ({ u with
        h1 := h1, h2 := h2, len := u.len + 1#64, pk1 := 0#64, pk2 := 0#64, ppos := 0#4, finv := false } : M3fRegs)
    else { u with len := u.len + 1#64, pk1 := pk1, pk2 := pk2, ppos := u.ppos + 1#4, finv := false }
  ∀ (s : State) (b : Byte) (e : Bool) (op : Operands), s.faulted = false →
    decode ⟨0x03500000#32 ||| b.setWidth 32, op⟩ = .ok (.updbM3f b op)
    ∧ exec (.updbM3f b op) s = .next { s with u5 := byteStep s.u5 b }
    ∧ decode ⟨0x04500000#32, op⟩ = .ok (.updrM3f op)
    ∧ (op.a.toNat + op.b.toNat ≤ s.mem.size → exec (.updrM3f op) s = .next { s with
        u5 := { (List.range op.b.toNat).foldl (fun u i => byteStep u (s.mem.byteAt (op.a.toNat + i))) s.u5 with
          finv := false } })
    ∧ (s.mem.size < op.a.toNat + op.b.toNat →
      exec (.updrM3f op) s = .next { s with flt := ⟨0x11#32, 0x04500000#32, op.a, op.b⟩ })
    ∧ decode ⟨0x12500000#32 ||| (BitVec.ofBool e).setWidth 32 <<< 16, op⟩ = .ok (.upd64M3f e op)
    ∧ exec (.upd64M3f e op) s = .next { s with
        u5 := (if e then [7, 6, 5, 4, 3, 2, 1, 0] else [0, 1, 2, 3, 4, 5, 6, 7]).foldl
          (fun u i => byteStep u (op.a.extractLsb' (8 * i) 8)) s.u5 }

/-- O41, R233, R234, R236. GETV.M3F, GETVH.M3F and GET128.M3F return the finalised lanes and fill the cache. -/
def Obligations.M3fValues : Prop :=
  let lanes := fun (u : M3fRegs) =>
    let fmix := fun (k : Word64) =>
      let k := (k ^^^ k >>> 33) * 0xFF51AFD7ED558CCD#64
      let k := (k ^^^ k >>> 33) * 0xC4CEB9FE1A85EC53#64
      k ^^^ k >>> 33
    let k1 := (u.pk1 * 0x87C37B91114253D5#64).rotateLeft 31 * 0x4CF5AD432745937F#64
    let k2 := (u.pk2 * 0x4CF5AD432745937F#64).rotateLeft 33 * 0x87C37B91114253D5#64
    let h1 := (if 0 < u.ppos.toNat then u.h1 ^^^ k1 else u.h1) ^^^ u.len
    let h2 := (if 8 < u.ppos.toNat then u.h2 ^^^ k2 else u.h2) ^^^ u.len
    let h1 := h1 + h2
    let h2 := h2 + h1
    let h1 := fmix h1
    let h2 := fmix h2
    let h1 := h1 + h2
    let h2 := h2 + h1
    if u.finv then (u.finlo, u.finhi) else (h1, h2)
  ∀ (s : State) (op : Operands), s.faulted = false →
    let lo := (lanes s.u5).1
    let hi := (lanes s.u5).2
    let u5 : M3fRegs := { s.u5 with finv := true, finlo := lo, finhi := hi }
    decode ⟨0x05500000#32, op⟩ = .ok (.getvM3f op)
    ∧ exec (.getvM3f op) s = .next { s with res := { s.res with r0 := lo }, u5 := u5 }
    ∧ decode ⟨0x06500000#32, op⟩ = .ok (.getvhM3f op)
    ∧ exec (.getvhM3f op) s = .next { s with res := { s.res with r0 := hi }, u5 := u5 }
    ∧ decode ⟨0x07500000#32, op⟩ = .ok (.get128M3f op)
    ∧ exec (.get128M3f op) s = .next { s with res := { s.res with r0 := lo, r1 := hi }, u5 := u5 }

/-- O42, R235, R237, R238, R239. GETBE.M3F, GETLE.M3F and GETHEX.M3F return the 128-bit value as strings. -/
def Obligations.M3fStrings : Prop :=
  ∀ (s : State) (op : Operands), s.faulted = false → ∃ lo hi : Word64,
    let v : BitVec 128 := hi ++ lo
    let u5 : M3fRegs := { s.u5 with finv := true, finlo := lo, finhi := hi }
    let packed := fun (str : Nat → Byte) (r : Nat) =>
      (List.range 8).foldl (fun w i => w ||| (str (8 * r + i)).setWidth 64 <<< (8 * i)) 0#64
    let be := fun (j : Nat) => v.extractLsb' (8 * (15 - j)) 8
    let le := fun (j : Nat) => v.extractLsb' (8 * j) 8
    let hex := fun (j : Nat) =>
      let d := (v.extractLsb' (124 - 4 * j) 4).toNat
      BitVec.ofNat 8 (if d ≤ 9 then 0x30 + d else 0x61 + (d - 10))
    exec (.get128M3f op) s = .next { s with res := { s.res with r0 := lo, r1 := hi }, u5 := u5 }
    ∧ decode ⟨0x08500000#32, op⟩ = .ok (.getbeM3f op)
    ∧ exec (.getbeM3f op) s = .next { s with res := { s.res with r0 := packed be 0, r1 := packed be 1 }, u5 := u5 }
    ∧ decode ⟨0x09500000#32, op⟩ = .ok (.getleM3f op)
    ∧ exec (.getleM3f op) s = .next { s with res := { s.res with r0 := packed le 0, r1 := packed le 1 }, u5 := u5 }
    ∧ packed le 0 = lo ∧ packed le 1 = hi
    ∧ decode ⟨0x0A500000#32, op⟩ = .ok (.gethexM3f op)
    ∧ exec (.gethexM3f op) s =
        .next { s with res := ⟨packed hex 0, packed hex 1, packed hex 2, packed hex 3⟩, u5 := u5 }

/-- O43, R90, R94, R261. BIND.CMB: a legal pair replaces the binding and nothing else; any other pair is ILLEGAL_FIELD.
R90 lists the check of the pair with the checks of decoding and R94 puts it beyond match and mask; that the word of
an illegal pair decodes to BIND.CMB, so that exec and not the decoder raises ILLEGAL_FIELD, is the choice of the
model, log 6. -/
def Obligations.CmbBind : Prop :=
  ∀ (s : State) (s1 s2 : BitVec 3) (imm : Byte) (op : Operands), s.faulted = false →
    let cw := 0x30600000#32 ||| s2.setWidth 32 <<< 4 ||| s1.setWidth 32
    decode ⟨cw, op⟩ = .ok (.bindCmb s1 s2 op)
    ∧ (if s1.toNat ≤ 5 ∧ s2.toNat ≤ 5 ∧ s1 ≠ s2 then
        ∃ k1 k2 : HashUnit, selectorOf k1 = s1 ∧ selectorOf k2 = s2
          ∧ exec (.bindCmb s1 s2 op) s = .next { s with u6 := { bound := true, sel1 := k1, sel2 := k2 } }
      else exec (.bindCmb s1 s2 op) s = .next { s with flt := ⟨0x41#32, cw, op.a, op.b⟩ })
    ∧ (imm.getLsbD 3 = true ∨ imm.getLsbD 7 = true →
      runPacket ⟨0x30600000#32 ||| imm.setWidth 32, op⟩ s =
        .next { s with flt := ⟨0x41#32, 0x30600000#32 ||| imm.setWidth 32, op.a, op.b⟩ })

/-- O44, R232, R241, R263, R264, R265. RESET.CMB, UPDB.CMB and UPDR.CMB do what the commands of the two bound units do,
in order. That UPDR.CMB over no bytes clears FINV of a bound unit 5, as UPDR.M3F over no bytes does, is log 7
(DEDUCED from R232 and R241, against Bytes_5 of the empty list in R265). That the order of the two units does not
matter is what R263 marks as derived and R265 says of interleaving. -/
def Obligations.CmbForward : Prop :=
  ∀ (s : State) (b : Byte) (op : Operands), s.faulted = false →
    decode ⟨0x02600000#32, op⟩ = .ok (.resetCmb op) ∧ decode ⟨0x03600000#32 ||| b.setWidth 32, op⟩ = .ok (.updbCmb b op)
    ∧ decode ⟨0x04600000#32, op⟩ = .ok (.updrCmb op)
    ∧ (s.u6.bound = true → ∃ t : State, exec (.resetCmb op) s = .next t
      ∧ execAll [resetOf s.u6.sel1 op, resetOf s.u6.sel2 op] s = .next t
      ∧ (s.u6.sel1 ≠ s.u6.sel2 → execAll [resetOf s.u6.sel2 op, resetOf s.u6.sel1 op] s = .next t))
    ∧ (s.u6.bound = true → ∃ t : State, exec (.updbCmb b op) s = .next t
      ∧ execAll [updbOf s.u6.sel1 b op, updbOf s.u6.sel2 b op] s = .next t
      ∧ (s.u6.sel1 ≠ s.u6.sel2 → execAll [updbOf s.u6.sel2 b op, updbOf s.u6.sel1 b op] s = .next t))
    ∧ (s.u6.bound = true → op.a.toNat + op.b.toNat ≤ s.mem.size → ∃ t : State, exec (.updrCmb op) s = .next t
      ∧ execAll [updrOf s.u6.sel1 op, updrOf s.u6.sel2 op] s = .next t
      ∧ (s.u6.sel1 ≠ s.u6.sel2 → execAll [updrOf s.u6.sel2 op, updrOf s.u6.sel1 op] s = .next t))
    ∧ (s.u6.bound = true → s.mem.size < op.a.toNat + op.b.toNat →
      exec (.updrCmb op) s = .next { s with flt := ⟨0x11#32, 0x04600000#32, op.a, op.b⟩ })
    ∧ (s.u6.bound = false →
      exec (.resetCmb op) s = .next { s with flt := ⟨0x51#32, 0x02600000#32, op.a, op.b⟩ }
      ∧ exec (.updbCmb b op) s = .next { s with flt := ⟨0x51#32, 0x03600000#32 ||| b.setWidth 32, op.a, op.b⟩ }
      ∧ exec (.updrCmb op) s = .next { s with flt := ⟨0x51#32, 0x04600000#32, op.a, op.b⟩ })

/-- O45, R266. GETV.CMB packs the low halves of the two bound values. -/
def Obligations.CmbValue : Prop :=
  ∀ (s : State) (op : Operands), s.faulted = false →
    decode ⟨0x05600000#32, op⟩ = .ok (.getvCmb op)
    ∧ (s.u6.bound = true → ∃ t1 t2 : State, exec (getvOf s.u6.sel1 op) s = .next t1
      ∧ exec (getvOf s.u6.sel2 op) t1 = .next t2
      ∧ exec (.getvCmb op) s = .next { t2 with res := { s.res with
          r0 := t2.res.r0 <<< 32 ||| t1.res.r0 &&& 0x00000000FFFFFFFF#64 } }
      ∧ (t2.res.r0 <<< 32 ||| t1.res.r0 &&& 0x00000000FFFFFFFF#64).extractLsb' 0 32 = t1.res.r0.extractLsb' 0 32
      ∧ (t2.res.r0 <<< 32 ||| t1.res.r0 &&& 0x00000000FFFFFFFF#64).extractLsb' 32 32 = t2.res.r0.extractLsb' 0 32
      ∧ forgetCache { t2 with res := s.res } = forgetCache s)
    ∧ (s.u6.bound = false → exec (.getvCmb op) s = .next { s with flt := ⟨0x51#32, 0x05600000#32, op.a, op.b⟩ })

/-- O46, R110, R112, R113. RD32.BOR and RD64.BOR read a word at any address in the order of E. -/
def Obligations.BorReads : Prop :=
  ∀ (s : State) (e : Bool) (op : Operands), s.faulted = false →
    let le32 : Word32 := (s.mem.byteAt op.a.toNat).setWidth 32
      ||| (s.mem.byteAt (op.a.toNat + 1)).setWidth 32 <<< 8
      ||| (s.mem.byteAt (op.a.toNat + 2)).setWidth 32 <<< 16
      ||| (s.mem.byteAt (op.a.toNat + 3)).setWidth 32 <<< 24
    let be32 : Word32 := (s.mem.byteAt op.a.toNat).setWidth 32 <<< 24
      ||| (s.mem.byteAt (op.a.toNat + 1)).setWidth 32 <<< 16
      ||| (s.mem.byteAt (op.a.toNat + 2)).setWidth 32 <<< 8
      ||| (s.mem.byteAt (op.a.toNat + 3)).setWidth 32
    let le64 : Word64 := (s.mem.byteAt op.a.toNat).setWidth 64
      ||| (s.mem.byteAt (op.a.toNat + 1)).setWidth 64 <<< 8
      ||| (s.mem.byteAt (op.a.toNat + 2)).setWidth 64 <<< 16
      ||| (s.mem.byteAt (op.a.toNat + 3)).setWidth 64 <<< 24
      ||| (s.mem.byteAt (op.a.toNat + 4)).setWidth 64 <<< 32
      ||| (s.mem.byteAt (op.a.toNat + 5)).setWidth 64 <<< 40
      ||| (s.mem.byteAt (op.a.toNat + 6)).setWidth 64 <<< 48
      ||| (s.mem.byteAt (op.a.toNat + 7)).setWidth 64 <<< 56
    let be64 : Word64 := (s.mem.byteAt op.a.toNat).setWidth 64 <<< 56
      ||| (s.mem.byteAt (op.a.toNat + 1)).setWidth 64 <<< 48
      ||| (s.mem.byteAt (op.a.toNat + 2)).setWidth 64 <<< 40
      ||| (s.mem.byteAt (op.a.toNat + 3)).setWidth 64 <<< 32
      ||| (s.mem.byteAt (op.a.toNat + 4)).setWidth 64 <<< 24
      ||| (s.mem.byteAt (op.a.toNat + 5)).setWidth 64 <<< 16
      ||| (s.mem.byteAt (op.a.toNat + 6)).setWidth 64 <<< 8
      ||| (s.mem.byteAt (op.a.toNat + 7)).setWidth 64
    let cw32 := 0x20700000#32 ||| (BitVec.ofBool e).setWidth 32 <<< 16
    let cw64 := 0x21700000#32 ||| (BitVec.ofBool e).setWidth 32 <<< 16
    rd32LE s.mem op.a.toNat = le32 ∧ rd32BE s.mem op.a.toNat = be32 ∧ rd64LE s.mem op.a.toNat = le64
    ∧ rd64BE s.mem op.a.toNat = be64
    ∧ decode ⟨cw32, op⟩ = .ok (.rd32Bor e op) ∧ decode ⟨cw64, op⟩ = .ok (.rd64Bor e op)
    ∧ (op.a.toNat + 4 ≤ s.mem.size → exec (.rd32Bor e op) s = .next { s with res := { s.res with
        r0 := (if e then be32 else le32).setWidth 64 } })
    ∧ (s.mem.size < op.a.toNat + 4 → exec (.rd32Bor e op) s = .next { s with flt := ⟨0x11#32, cw32, op.a, op.b⟩ })
    ∧ (op.a.toNat + 8 ≤ s.mem.size → exec (.rd64Bor e op) s = .next { s with res := { s.res with
        r0 := if e then be64 else le64 } })
    ∧ (s.mem.size < op.a.toNat + 8 → exec (.rd64Bor e op) s = .next { s with flt := ⟨0x11#32, cw64, op.a, op.b⟩ })

/-- O47, R164, R169, R177. The three-phase datapath computes the range updates of FNVJ32 and FNVJ64. -/
def Obligations.FnvjDatapath : Prop :=
  ∀ (s : State) (op : Operands), s.faulted = false → op.a.toNat + op.b.toNat ≤ s.mem.size →
    ((s.u2.ppos = 0#2 → s.u2.pw = 0#32) →
      exec (.updrFnvj32 op) s = .next { s with u2 := fnvj32Datapath s.mem op.a.toNat op.b.toNat s.u2 })
    ∧ ((s.u3.ppos = 0#3 → s.u3.pw = 0#64) →
      exec (.updrFnvj64 op) s = .next { s with u3 := fnvj64Datapath s.mem op.a.toNat op.b.toNat s.u3 })

/-- O48, R196, R200, R228, R232. The three-phase datapath computes the range updates of M3A and M3F. -/
def Obligations.MurmurDatapath : Prop :=
  ∀ (s : State) (op : Operands), s.faulted = false → op.a.toNat + op.b.toNat ≤ s.mem.size →
    ((s.u4.ppos = 0#2 → s.u4.pk1 = 0#32) →
      exec (.updrM3a op) s = .next { s with u4 := m3aDatapath s.mem op.a.toNat op.b.toNat s.u4 })
    ∧ ((s.u5.ppos = 0#4 → s.u5.pk1 = 0#64) → (s.u5.ppos.toNat ≤ 8 → s.u5.pk2 = 0#64) →
      exec (.updrM3f op) s = .next { s with u5 := m3fDatapath s.mem op.a.toNat op.b.toNat s.u5 })

/-- O49, R165. FNVJ32 and FNVJ64 as machines that multiply on the first byte of an input block. -/
def Obligations.FnvjEagerForm : Prop :=
  let eager2 := fun (u : Fnvj32Regs) => if u.ppos = 0#2 then u.acc else u.acc * 0x01000193#32 ^^^ u.pw
  let eager3 := fun (u : Fnvj64Regs) => if u.ppos = 0#3 then u.acc else u.acc * 0x00000100000001B3#64 ^^^ u.pw
  ∀ (s : State) (b : Byte) (op : Operands), s.faulted = false → Fnvj32Inv s.u2 → Fnvj64Inv s.u3 →
    (∃ t : State, exec (.updbFnvj32 b op) s = .next t ∧ eager2 t.u2 =
      if s.u2.ppos = 0#2 then eager2 s.u2 * 0x01000193#32 ^^^ b.setWidth 32 <<< 24
      else eager2 s.u2 ^^^ b.setWidth 32 <<< (8 * (3 - s.u2.ppos.toNat)))
    ∧ (∃ t : State, exec (.getvFnvj32 op) s = .next t
      ∧ t.res.r0 = ((eager2 s.u2 * 0x01000193#32 ^^^ s.u2.len) * 0x01000193#32).setWidth 64)
    ∧ (∃ t : State, exec (.updbFnvj64 b op) s = .next t ∧ eager3 t.u3 =
      if s.u3.ppos = 0#3 then eager3 s.u3 * 0x00000100000001B3#64 ^^^ b.setWidth 64 <<< 56
      else eager3 s.u3 ^^^ b.setWidth 64 <<< (8 * (7 - s.u3.ppos.toNat)))
    ∧ (∃ t : State, exec (.getvFnvj64 op) s = .next t
      ∧ t.res.r0 = (eager3 s.u3 * 0x00000100000001B3#64 ^^^ s.u3.len) * 0x00000100000001B3#64)

/-- O50, R125, R128. Any two ways of delivering the same bytes to a unit by UPDB and UPDR leave the same state. The
typed updates that R128 names for units 4 and 5 are the statement TypedUpdatesAreByteUpdates. -/
def Obligations.ChunkingInvariance : Prop :=
  ∀ (k : HashUnit) (s : State) (ps qs : List Piece), s.faulted = false → (∀ p ∈ ps ++ qs, p.fits s.mem = true) →
    ps.flatMap (Piece.bytes s.mem) = qs.flatMap (Piece.bytes s.mem) →
    ∃ t t' : State, execAll (ps.map (Piece.toUnit k)) s = .next t ∧ execAll (qs.map (Piece.toUnit k)) s = .next t'
      ∧ forgetCache t = forgetCache t'

/-- O51, R264, R265, R270. Any two ways of delivering the same bytes to the packer by UPDB.CMB and UPDR.CMB leave the
same state. -/
def Obligations.PackerChunking : Prop :=
  ∀ (s : State) (ps qs : List Piece), s.faulted = false → s.u6.bound = true → s.u6.sel1 ≠ s.u6.sel2 →
    (∀ p ∈ ps ++ qs, p.fits s.mem = true) →
    ps.flatMap (Piece.bytes s.mem) = qs.flatMap (Piece.bytes s.mem) →
    ∃ t t' : State, execAll (ps.map Piece.toPacker) s = .next t ∧ execAll (qs.map Piece.toPacker) s = .next t'
      ∧ forgetCache t = forgetCache t'

/-- O52, R205, R206, R207, R208, R210, R240. A typed update is the UPDB commands of its bytes, an array update the UPDR
over its bytes. -/
def Obligations.TypedUpdatesAreByteUpdates : Prop :=
  ∀ (s : State) (op : Operands), s.faulted = false →
    let byteM3a := fun (i : Nat) => Instr.updbM3a (op.a.extractLsb' (8 * i) 8) op
    let byteM3f := fun (i : Nat) => Instr.updbM3f (op.a.extractLsb' (8 * i) 8) op
    let swapped : Word64 := (List.range 8).foldl (fun w i => w <<< 8 ||| (op.a.extractLsb' (8 * i) 8).setWidth 64) 0#64
    (∃ t : State, exec (.upd16M3a op) s = .next t ∧ execAll ([0, 1].map byteM3a) s = .next t)
    ∧ (∃ t : State, exec (.upd32M3a op) s = .next t ∧ execAll ([0, 1, 2, 3].map byteM3a) s = .next t)
    ∧ (∃ t : State, exec (.upd64M3a op) s = .next t ∧ execAll ([0, 1, 2, 3, 4, 5, 6, 7].map byteM3a) s = .next t)
    ∧ (op.a.toNat + 2 * op.b.toNat ≤ s.mem.size → 2 * op.b.toNat < 2 ^ 64 → ∃ t : State,
      exec (.upda16M3a false op) s = .next t ∧ exec (.updrM3a ⟨op.a, 2#64 * op.b⟩) s = .next t)
    ∧ (op.a.toNat + 4 * op.b.toNat ≤ s.mem.size → 4 * op.b.toNat < 2 ^ 64 → ∃ t : State,
      exec (.upda32M3a false op) s = .next t ∧ exec (.updrM3a ⟨op.a, 4#64 * op.b⟩) s = .next t)
    ∧ (op.a.toNat + 8 * op.b.toNat ≤ s.mem.size → 8 * op.b.toNat < 2 ^ 64 → ∃ t : State,
      exec (.upda64M3a false op) s = .next t ∧ exec (.updrM3a ⟨op.a, 8#64 * op.b⟩) s = .next t)
    ∧ (∃ t : State, exec (.upd64M3f false op) s = .next t ∧ execAll ([0, 1, 2, 3, 4, 5, 6, 7].map byteM3f) s = .next t)
    ∧ (∃ t : State, exec (.upd64M3f true op) s = .next t ∧ execAll ([7, 6, 5, 4, 3, 2, 1, 0].map byteM3f) s = .next t
      ∧ exec (.upd64M3f false ⟨swapped, op.b⟩) s = .next t)

/-- O53, R127, R266, R270. Reading a value twice gives the same value and leaves the hash state alone. -/
def Obligations.ValueCommandsDoNotMutate : Prop :=
  ∀ (s : State) (op : Operands) (i : Instr), s.faulted = false →
    ((∃ k : HashUnit, i = getvOf k op) ∨ i ∈ [.getvhM3f op, .get128M3f op, .getbeM3f op, .getleM3f op, .gethexM3f op]
      ∨ (i = .getvCmb op ∧ s.u6.bound = true)) →
    ∃ t : State, exec i s = .next t ∧ exec i t = .next t ∧ forgetCache { t with res := s.res } = forgetCache s

/-- O54, R123, R129. RESET restores what INIT with the stored seed would leave, and so the value of a new instance. -/
def Obligations.ResetIdempotence : Prop :=
  ∀ (k : HashUnit) (s t0 : State) (op : Operands) (b : Word64), s.faulted = false → t0.faulted = false →
    (∃ t : State, exec (resetOf k op) s = .next t ∧ exec (initOf k ⟨seedOf k s, b⟩) s = .next t)
    ∧ ∃ t t' : State, execAll [resetOf k op, getvOf k op] s = .next t
      ∧ execAll [initOf k ⟨seedOf k s, b⟩, getvOf k op] t0 = .next t' ∧ t.res.r0 = t'.res.r0

/-- O55, R32, R241. No command depends on the finalized cache of unit 5. -/
def Obligations.CacheIsUnobservable : Prop :=
  ∀ (p : Packet) (s : State), CacheInv s.u5 → ∃ t t' : State,
    runPacket p s = .next t ∧ runPacket p (forgetCache s) = .next t' ∧ forgetCache t = forgetCache t'

/-- O56, R36, R179. After construction and any bytes, LEN counts them and the partial buffer holds the unfinished block. -/
def Obligations.LengthAndPartialBlockOfAStream : Prop :=
  ∀ (s : State) (op : Operands) (bs : List Byte), s.faulted = false →
    let rest4 := bs.drop (4 * (bs.length / 4))
    let rest8 := bs.drop (8 * (bs.length / 8))
    let rest16 := bs.drop (16 * (bs.length / 16))
    (∃ t : State, execAll (.initFnvj32 op :: bs.map fun b => .updbFnvj32 b op) s = .next t
      ∧ t.u2.len = BitVec.ofNat 32 bs.length ∧ t.u2.ppos = BitVec.ofNat 2 bs.length
      ∧ t.u2.pw.toNat = beNat rest4 * 256 ^ (4 - rest4.length))
    ∧ (∃ t : State, execAll (.initFnvj64 op :: bs.map fun b => .updbFnvj64 b op) s = .next t
      ∧ t.u3.len = BitVec.ofNat 64 bs.length ∧ t.u3.ppos = BitVec.ofNat 3 bs.length
      ∧ t.u3.pw.toNat = beNat rest8 * 256 ^ (8 - rest8.length))
    ∧ (∃ t : State, execAll (.initM3a op :: bs.map fun b => .updbM3a b op) s = .next t
      ∧ t.u4.len = BitVec.ofNat 32 bs.length ∧ t.u4.ppos = BitVec.ofNat 2 bs.length
      ∧ t.u4.pk1.toNat = leNat rest4)
    ∧ (∃ t : State, execAll (.initM3f op :: bs.map fun b => .updbM3f b op) s = .next t
      ∧ t.u5.len = BitVec.ofNat 64 bs.length ∧ t.u5.ppos = BitVec.ofNat 4 bs.length
      ∧ t.u5.pk1.toNat = leNat (rest16.take 8) ∧ t.u5.pk2.toNat = leNat (rest16.drop 8))

/-- O57, R269. The packed value of two fresh units for every legal binding. -/
def Obligations.PackerBaseline : Prop :=
  let empty : BitVec 3 → Word64 := fun sel =>
    match sel.toNat with
    | 0 => 0x811C9DC5#64
    | 1 => 0xCBF29CE484222325#64
    | 2 => 0x117697CD#64
    | 3 => 0x08328807B4EB6FED#64
    | _ => 0#64
  ∀ (s : State) (s1 s2 : BitVec 3) (op : Operands), legalBinding s1 s2 = true → ∃ t : State,
    execAll [.bindCmb s1 s2 op, .getvCmb op] (hardwareReset s) = .next t
    ∧ t.res.r0 = empty s2 <<< 32 ||| empty s1 &&& 0x00000000FFFFFFFF#64
    ∧ (t.res.r0 = 0#64 ↔ (s1 = 4#3 ∧ s2 = 5#3) ∨ (s1 = 5#3 ∧ s2 = 4#3))

/-- O58, R25. The host read port answers each register at its number and 0 beyond. -/
def Obligations.ReadPortNumbers : Prop :=
  ∀ s : State,
    (List.range 8).map (fun n => readPort n s) = [s.flt.status.setWidth 64, s.flt.fcw.setWidth 64, s.flt.fa, s.flt.fb,
      s.res.r0, s.res.r1, s.res.r2, s.res.r3]
    ∧ ∀ n : Nat, 8 ≤ n → readPort n s = 0#64
end

