-- ==== Sys2Proof/Laws/Decode.lean ====
section
/-!
SUPPORT. The tables and the fields of the command word: each field of `commandWord` reads back, and the opcode and
unit tables are injective.
-/

namespace Sys2Proof

theorem mnemonicOf_opcodeBits (m : Mnemonic) : mnemonicOf (opcodeBits m) = some m := by cases m <;> decide

theorem unitOf_unitBits (u : UnitName) : unitOf (unitBits u) = some u := by cases u <;> decide

theorem opcodeBits_of_mnemonicOf {b : BitVec 8} {m : Mnemonic} (h : mnemonicOf b = some m) : opcodeBits m = b := by
  simpa using List.find?_some h

theorem unitBits_of_unitOf {b : BitVec 4} {u : UnitName} (h : unitOf b = some u) : unitBits u = b := by
  simpa using List.find?_some h

/-- R84: the instruction of a pair exists exactly where the table allows the pair. -/
theorem selectInstr_isSome (m : Mnemonic) (u : UnitName) (n e : Bool) (imm : Byte) (op : Operands) :
    (selectInstr m u n e imm op).isSome = (legalUnits m).contains u := by
  cases m <;> cases u <;> rfl

section Fields

variable (m : Mnemonic) (u : UnitName) (n e : Bool) (imm : Byte)

/-- A bit of the command word, from its five parts. -/
theorem getLsbD_commandWord (i : Nat) : (commandWord m u n e imm).getLsbD i =
    (decide (i < 32) && (decide (24 ≤ i) && (opcodeBits m).getLsbD (i - 24)
      || decide (20 ≤ i) && (unitBits u).getLsbD (i - 20) || decide (i = 17) && n || decide (i = 16) && e
      || imm.getLsbD i)) := by
  by_cases hi : i < 32
  · interval_cases i <;> simp [commandWord]
  · simp [commandWord, hi]

theorem opField_commandWord : opField (commandWord m u n e imm) = opcodeBits m := by
  apply BitVec.eq_of_getLsbD_eq
  intro i hi
  rw [opField, BitVec.getLsbD_extractLsb', getLsbD_commandWord]
  interval_cases i <;> simp

theorem unitField_commandWord : unitField (commandWord m u n e imm) = unitBits u := by
  apply BitVec.eq_of_getLsbD_eq
  intro i hi
  rw [unitField, BitVec.getLsbD_extractLsb', getLsbD_commandWord]
  interval_cases i <;> simp

theorem z1Field_commandWord : z1Field (commandWord m u n e imm) = 0#2 := by
  apply BitVec.eq_of_getLsbD_eq
  intro i hi
  rw [z1Field, BitVec.getLsbD_extractLsb', getLsbD_commandWord]
  interval_cases i <;> simp

theorem nField_commandWord : nField (commandWord m u n e imm) = n := by
  rw [nField, getLsbD_commandWord]
  simp

theorem eField_commandWord : eField (commandWord m u n e imm) = e := by
  rw [eField, getLsbD_commandWord]
  simp

theorem z0Field_commandWord : z0Field (commandWord m u n e imm) = 0#8 := by
  apply BitVec.eq_of_getLsbD_eq
  intro i hi
  rw [z0Field, BitVec.getLsbD_extractLsb', getLsbD_commandWord]
  interval_cases i <;> simp

theorem immField_commandWord : immField (commandWord m u n e imm) = imm := by
  apply BitVec.eq_of_getLsbD_eq
  intro i hi
  rw [immField, BitVec.getLsbD_extractLsb', getLsbD_commandWord]
  interval_cases i <;> simp

end Fields

theorem sel1OfImm_bindImm : ∀ sel1 sel2 : BitVec 3, sel1OfImm (bindImm sel1 sel2) = sel1 := by decide

theorem sel2OfImm_bindImm : ∀ sel1 sel2 : BitVec 3, sel2OfImm (bindImm sel1 sel2) = sel2 := by decide

end Sys2Proof
end

