-- ==== Sys2Proof/Laws/Memory.lean ====
section
/-!
SUPPORT. The buffer memory: a write keeps the canonical form, a read after a write, what a range read gives, and that
equal contents are equal data.
-/

namespace Sys2Proof.Machine

/-! ## Listings -/

/-- A canonical listing reads as unwritten below its first address. -/
theorem cellAt_below {size : Nat} : ∀ {low : Nat} {cs : List Host.Cell}, cellsWf size low cs = true →
    ∀ {addr : Nat}, addr < low → cellAt cs addr = Config.unwrittenByte
  | _, [], _, _, _ => rfl
  | low, (k, b) :: rest, h, addr, hlt => by
    simp only [cellsWf, Bool.and_eq_true, decide_eq_true_eq] at h
    have hne : k ≠ addr := by omega
    simp only [cellAt, if_neg hne]
    exact cellAt_below h.2 (by omega)

theorem cellsWf_of_le {size : Nat} {low low' : Nat} (hle : low' ≤ low) :
    ∀ {cs : List Host.Cell}, cellsWf size low cs = true → cellsWf size low' cs = true
  | [], _ => rfl
  | (k, b) :: rest, h => by
    simp only [cellsWf, Bool.and_eq_true, decide_eq_true_eq] at h ⊢
    exact ⟨⟨⟨by omega, h.1.1.2⟩, h.1.2⟩, h.2⟩

/-- Putting a byte keeps the canonical form. -/
theorem cellPut_wf {size addr : Nat} (hsize : addr < size) (byte : Byte) : ∀ {low : Nat} {cs : List Host.Cell},
    low ≤ addr → cellsWf size low cs = true → cellsWf size low (cellPut cs addr byte) = true
  | low, [], hlow, _ => by
    by_cases hb : byte = Config.unwrittenByte <;> simp [cellPut, cellsWf, hb, hlow, hsize]
  | low, (k, b) :: rest, hlow, h => by
    have h0 := h
    simp only [cellsWf, Bool.and_eq_true, decide_eq_true_eq] at h
    obtain ⟨⟨⟨hk, hks⟩, hb'⟩, hrest⟩ := h
    unfold cellPut
    split
    · rename_i hlt
      split
      · exact h0
      · rename_i hb
        simp only [cellsWf, Bool.and_eq_true, decide_eq_true_eq]
        exact ⟨⟨⟨hlow, hsize⟩, hb⟩, ⟨⟨by omega, hks⟩, hb'⟩, hrest⟩
    · split
      · rename_i hk2
        split
        · exact cellsWf_of_le (by omega) hrest
        · rename_i hb
          simp only [cellsWf, Bool.and_eq_true, decide_eq_true_eq]
          exact ⟨⟨⟨hlow, hsize⟩, hb⟩, hk2 ▸ hrest⟩
      · rename_i hlt hne
        simp only [cellsWf, Bool.and_eq_true, decide_eq_true_eq]
        exact ⟨⟨⟨hk, hks⟩, hb'⟩, cellPut_wf hsize byte (by omega) hrest⟩

/-- Reading after putting a byte, in a canonical listing. -/
theorem cellAt_cellPut {size : Nat} (addr : Nat) (byte : Byte) (x : Nat) : ∀ {low : Nat} {cs : List Host.Cell},
    cellsWf size low cs = true → cellAt (cellPut cs addr byte) x = if x = addr then byte else cellAt cs x
  | low, [], _ => by
    by_cases hb : byte = Config.unwrittenByte
    · simp [cellPut, cellAt, hb]
    · simp [cellPut, cellAt, hb, eq_comm]
  | low, (k, b) :: rest, h => by
    simp only [cellsWf, Bool.and_eq_true, decide_eq_true_eq] at h
    unfold cellPut
    split
    · rename_i hlt
      split
      · rename_i hb
        split
        · rename_i hx
          subst hx
          have hne : k ≠ x := by omega
          rw [cellAt, if_neg hne, cellAt_below h.2 (by omega), hb]
        · rfl
      · by_cases hx : x = addr
        · simp [cellAt, hx]
        · simp [cellAt, hx, Ne.symm hx]
    · split
      · rename_i hk
        split
        · rename_i hb
          by_cases hx : x = addr
          · rw [if_pos hx, hb]
            exact cellAt_below h.2 (by omega)
          · simp [cellAt, hx, hk, Ne.symm hx]
        · by_cases hx : x = addr
          · simp [cellAt, hx]
          · simp [cellAt, hx, hk, Ne.symm hx]
      · rename_i hlt hne
        by_cases hkx : k = x
        · have : x ≠ addr := by omega
          simp [cellAt, hkx, this]
        · simp [cellAt, hkx, cellAt_cellPut addr byte x h.2]

/-! ## The memory -/

@[simp] theorem Memory.write_size (m : Memory) (addr : Nat) (byte : Byte) : (m.write addr byte).size = m.size := rfl

/-- Every memory operation keeps the canonical form: the host's write is the only one. -/
theorem Memory.write_wf {m : Memory} (h : m.wf = true) {addr : Nat} (haddr : addr < m.size) (byte : Byte) :
    (m.write addr byte).wf = true := by
  simp only [Memory.wf, Memory.write, Bool.and_eq_true, decide_eq_true_eq] at h ⊢
  exact ⟨decide_eq_true h.1, cellPut_wf haddr byte (Nat.zero_le _) h.2⟩

/-! ## Range reads -/

@[simp] theorem memRead_zero (m : Memory) (a : Nat) : memRead m a 0 = [] := rfl

theorem memRead_succ (m : Memory) (a n : Nat) : memRead m a (n + 1) = m.byteAt a :: memRead m (a + 1) n := rfl

@[simp] theorem memRead_length (m : Memory) : ∀ (a n : Nat), (memRead m a n).length = n
  | _, 0 => rfl
  | a, n + 1 => by simp [memRead_succ, memRead_length m (a + 1) n]

/-- R13: the bytes `BUF[a], ..., BUF[a+n-1]`. -/
theorem memRead_eq_map (m : Memory) : ∀ (a n : Nat), memRead m a n = (List.range n).map fun i => m.byteAt (a + i)
  | _, 0 => rfl
  | a, n + 1 => by
    rw [memRead_succ, memRead_eq_map m (a + 1) n, List.range_succ_eq_map]
    simp [Function.comp_def, Nat.add_comm, Nat.add_left_comm]

/-- A range is its first part and then the rest. -/
theorem memRead_append (m : Memory) : ∀ (a n k : Nat), memRead m a (n + k) = memRead m a n ++ memRead m (a + n) k
  | a, 0, k => by simp
  | a, n + 1, k => by
    rw [Nat.succ_add, memRead_succ, memRead_succ, memRead_append m (a + 1) n k, List.cons_append]
    simp [Nat.add_comm, Nat.add_left_comm]

@[simp] theorem inBounds_iff (m : Memory) (a n : Nat) : inBounds m a n = true ↔ a + n ≤ m.size := by
  simp [inBounds]

end Sys2Proof.Machine
end

