-- ==== Sys2Proof/Laws/State.lean ====
section
/-!
SUPPORT. One lemma for each part of the state under each update of it, so that no proof unfolds a record update.
-/

namespace Sys2Proof.Machine

@[simp] theorem State.setRes_res (s : State) (x : ResultRegs) : (s.setRes x).res = x := rfl
@[simp] theorem State.setRes_flt (s : State) (x : ResultRegs) : (s.setRes x).flt = s.flt := rfl
@[simp] theorem State.setRes_u0 (s : State) (x : ResultRegs) : (s.setRes x).u0 = s.u0 := rfl
@[simp] theorem State.setRes_u1 (s : State) (x : ResultRegs) : (s.setRes x).u1 = s.u1 := rfl
@[simp] theorem State.setRes_u2 (s : State) (x : ResultRegs) : (s.setRes x).u2 = s.u2 := rfl
@[simp] theorem State.setRes_u3 (s : State) (x : ResultRegs) : (s.setRes x).u3 = s.u3 := rfl
@[simp] theorem State.setRes_u4 (s : State) (x : ResultRegs) : (s.setRes x).u4 = s.u4 := rfl
@[simp] theorem State.setRes_u5 (s : State) (x : ResultRegs) : (s.setRes x).u5 = s.u5 := rfl
@[simp] theorem State.setRes_u6 (s : State) (x : ResultRegs) : (s.setRes x).u6 = s.u6 := rfl
@[simp] theorem State.setRes_mem (s : State) (x : ResultRegs) : (s.setRes x).mem = s.mem := rfl
@[simp] theorem State.setRes_host (s : State) (x : ResultRegs) : (s.setRes x).host = s.host := rfl

@[simp] theorem State.setFlt_res (s : State) (x : FaultRegs) : (s.setFlt x).res = s.res := rfl
@[simp] theorem State.setFlt_flt (s : State) (x : FaultRegs) : (s.setFlt x).flt = x := rfl
@[simp] theorem State.setFlt_u0 (s : State) (x : FaultRegs) : (s.setFlt x).u0 = s.u0 := rfl
@[simp] theorem State.setFlt_u1 (s : State) (x : FaultRegs) : (s.setFlt x).u1 = s.u1 := rfl
@[simp] theorem State.setFlt_u2 (s : State) (x : FaultRegs) : (s.setFlt x).u2 = s.u2 := rfl
@[simp] theorem State.setFlt_u3 (s : State) (x : FaultRegs) : (s.setFlt x).u3 = s.u3 := rfl
@[simp] theorem State.setFlt_u4 (s : State) (x : FaultRegs) : (s.setFlt x).u4 = s.u4 := rfl
@[simp] theorem State.setFlt_u5 (s : State) (x : FaultRegs) : (s.setFlt x).u5 = s.u5 := rfl
@[simp] theorem State.setFlt_u6 (s : State) (x : FaultRegs) : (s.setFlt x).u6 = s.u6 := rfl
@[simp] theorem State.setFlt_mem (s : State) (x : FaultRegs) : (s.setFlt x).mem = s.mem := rfl
@[simp] theorem State.setFlt_host (s : State) (x : FaultRegs) : (s.setFlt x).host = s.host := rfl

@[simp] theorem State.setU0_res (s : State) (x : Fnv32Regs) : (s.setU0 x).res = s.res := rfl
@[simp] theorem State.setU0_flt (s : State) (x : Fnv32Regs) : (s.setU0 x).flt = s.flt := rfl
@[simp] theorem State.setU0_u0 (s : State) (x : Fnv32Regs) : (s.setU0 x).u0 = x := rfl
@[simp] theorem State.setU0_u1 (s : State) (x : Fnv32Regs) : (s.setU0 x).u1 = s.u1 := rfl
@[simp] theorem State.setU0_u2 (s : State) (x : Fnv32Regs) : (s.setU0 x).u2 = s.u2 := rfl
@[simp] theorem State.setU0_u3 (s : State) (x : Fnv32Regs) : (s.setU0 x).u3 = s.u3 := rfl
@[simp] theorem State.setU0_u4 (s : State) (x : Fnv32Regs) : (s.setU0 x).u4 = s.u4 := rfl
@[simp] theorem State.setU0_u5 (s : State) (x : Fnv32Regs) : (s.setU0 x).u5 = s.u5 := rfl
@[simp] theorem State.setU0_u6 (s : State) (x : Fnv32Regs) : (s.setU0 x).u6 = s.u6 := rfl
@[simp] theorem State.setU0_mem (s : State) (x : Fnv32Regs) : (s.setU0 x).mem = s.mem := rfl
@[simp] theorem State.setU0_host (s : State) (x : Fnv32Regs) : (s.setU0 x).host = s.host := rfl

@[simp] theorem State.setU1_res (s : State) (x : Fnv64Regs) : (s.setU1 x).res = s.res := rfl
@[simp] theorem State.setU1_flt (s : State) (x : Fnv64Regs) : (s.setU1 x).flt = s.flt := rfl
@[simp] theorem State.setU1_u0 (s : State) (x : Fnv64Regs) : (s.setU1 x).u0 = s.u0 := rfl
@[simp] theorem State.setU1_u1 (s : State) (x : Fnv64Regs) : (s.setU1 x).u1 = x := rfl
@[simp] theorem State.setU1_u2 (s : State) (x : Fnv64Regs) : (s.setU1 x).u2 = s.u2 := rfl
@[simp] theorem State.setU1_u3 (s : State) (x : Fnv64Regs) : (s.setU1 x).u3 = s.u3 := rfl
@[simp] theorem State.setU1_u4 (s : State) (x : Fnv64Regs) : (s.setU1 x).u4 = s.u4 := rfl
@[simp] theorem State.setU1_u5 (s : State) (x : Fnv64Regs) : (s.setU1 x).u5 = s.u5 := rfl
@[simp] theorem State.setU1_u6 (s : State) (x : Fnv64Regs) : (s.setU1 x).u6 = s.u6 := rfl
@[simp] theorem State.setU1_mem (s : State) (x : Fnv64Regs) : (s.setU1 x).mem = s.mem := rfl
@[simp] theorem State.setU1_host (s : State) (x : Fnv64Regs) : (s.setU1 x).host = s.host := rfl

@[simp] theorem State.setU2_res (s : State) (x : Fnvj32Regs) : (s.setU2 x).res = s.res := rfl
@[simp] theorem State.setU2_flt (s : State) (x : Fnvj32Regs) : (s.setU2 x).flt = s.flt := rfl
@[simp] theorem State.setU2_u0 (s : State) (x : Fnvj32Regs) : (s.setU2 x).u0 = s.u0 := rfl
@[simp] theorem State.setU2_u1 (s : State) (x : Fnvj32Regs) : (s.setU2 x).u1 = s.u1 := rfl
@[simp] theorem State.setU2_u2 (s : State) (x : Fnvj32Regs) : (s.setU2 x).u2 = x := rfl
@[simp] theorem State.setU2_u3 (s : State) (x : Fnvj32Regs) : (s.setU2 x).u3 = s.u3 := rfl
@[simp] theorem State.setU2_u4 (s : State) (x : Fnvj32Regs) : (s.setU2 x).u4 = s.u4 := rfl
@[simp] theorem State.setU2_u5 (s : State) (x : Fnvj32Regs) : (s.setU2 x).u5 = s.u5 := rfl
@[simp] theorem State.setU2_u6 (s : State) (x : Fnvj32Regs) : (s.setU2 x).u6 = s.u6 := rfl
@[simp] theorem State.setU2_mem (s : State) (x : Fnvj32Regs) : (s.setU2 x).mem = s.mem := rfl
@[simp] theorem State.setU2_host (s : State) (x : Fnvj32Regs) : (s.setU2 x).host = s.host := rfl

@[simp] theorem State.setU3_res (s : State) (x : Fnvj64Regs) : (s.setU3 x).res = s.res := rfl
@[simp] theorem State.setU3_flt (s : State) (x : Fnvj64Regs) : (s.setU3 x).flt = s.flt := rfl
@[simp] theorem State.setU3_u0 (s : State) (x : Fnvj64Regs) : (s.setU3 x).u0 = s.u0 := rfl
@[simp] theorem State.setU3_u1 (s : State) (x : Fnvj64Regs) : (s.setU3 x).u1 = s.u1 := rfl
@[simp] theorem State.setU3_u2 (s : State) (x : Fnvj64Regs) : (s.setU3 x).u2 = s.u2 := rfl
@[simp] theorem State.setU3_u3 (s : State) (x : Fnvj64Regs) : (s.setU3 x).u3 = x := rfl
@[simp] theorem State.setU3_u4 (s : State) (x : Fnvj64Regs) : (s.setU3 x).u4 = s.u4 := rfl
@[simp] theorem State.setU3_u5 (s : State) (x : Fnvj64Regs) : (s.setU3 x).u5 = s.u5 := rfl
@[simp] theorem State.setU3_u6 (s : State) (x : Fnvj64Regs) : (s.setU3 x).u6 = s.u6 := rfl
@[simp] theorem State.setU3_mem (s : State) (x : Fnvj64Regs) : (s.setU3 x).mem = s.mem := rfl
@[simp] theorem State.setU3_host (s : State) (x : Fnvj64Regs) : (s.setU3 x).host = s.host := rfl

@[simp] theorem State.setU4_res (s : State) (x : M3aRegs) : (s.setU4 x).res = s.res := rfl
@[simp] theorem State.setU4_flt (s : State) (x : M3aRegs) : (s.setU4 x).flt = s.flt := rfl
@[simp] theorem State.setU4_u0 (s : State) (x : M3aRegs) : (s.setU4 x).u0 = s.u0 := rfl
@[simp] theorem State.setU4_u1 (s : State) (x : M3aRegs) : (s.setU4 x).u1 = s.u1 := rfl
@[simp] theorem State.setU4_u2 (s : State) (x : M3aRegs) : (s.setU4 x).u2 = s.u2 := rfl
@[simp] theorem State.setU4_u3 (s : State) (x : M3aRegs) : (s.setU4 x).u3 = s.u3 := rfl
@[simp] theorem State.setU4_u4 (s : State) (x : M3aRegs) : (s.setU4 x).u4 = x := rfl
@[simp] theorem State.setU4_u5 (s : State) (x : M3aRegs) : (s.setU4 x).u5 = s.u5 := rfl
@[simp] theorem State.setU4_u6 (s : State) (x : M3aRegs) : (s.setU4 x).u6 = s.u6 := rfl
@[simp] theorem State.setU4_mem (s : State) (x : M3aRegs) : (s.setU4 x).mem = s.mem := rfl
@[simp] theorem State.setU4_host (s : State) (x : M3aRegs) : (s.setU4 x).host = s.host := rfl

@[simp] theorem State.setU5_res (s : State) (x : M3fRegs) : (s.setU5 x).res = s.res := rfl
@[simp] theorem State.setU5_flt (s : State) (x : M3fRegs) : (s.setU5 x).flt = s.flt := rfl
@[simp] theorem State.setU5_u0 (s : State) (x : M3fRegs) : (s.setU5 x).u0 = s.u0 := rfl
@[simp] theorem State.setU5_u1 (s : State) (x : M3fRegs) : (s.setU5 x).u1 = s.u1 := rfl
@[simp] theorem State.setU5_u2 (s : State) (x : M3fRegs) : (s.setU5 x).u2 = s.u2 := rfl
@[simp] theorem State.setU5_u3 (s : State) (x : M3fRegs) : (s.setU5 x).u3 = s.u3 := rfl
@[simp] theorem State.setU5_u4 (s : State) (x : M3fRegs) : (s.setU5 x).u4 = s.u4 := rfl
@[simp] theorem State.setU5_u5 (s : State) (x : M3fRegs) : (s.setU5 x).u5 = x := rfl
@[simp] theorem State.setU5_u6 (s : State) (x : M3fRegs) : (s.setU5 x).u6 = s.u6 := rfl
@[simp] theorem State.setU5_mem (s : State) (x : M3fRegs) : (s.setU5 x).mem = s.mem := rfl
@[simp] theorem State.setU5_host (s : State) (x : M3fRegs) : (s.setU5 x).host = s.host := rfl

@[simp] theorem State.setU6_res (s : State) (x : CmbRegs) : (s.setU6 x).res = s.res := rfl
@[simp] theorem State.setU6_flt (s : State) (x : CmbRegs) : (s.setU6 x).flt = s.flt := rfl
@[simp] theorem State.setU6_u0 (s : State) (x : CmbRegs) : (s.setU6 x).u0 = s.u0 := rfl
@[simp] theorem State.setU6_u1 (s : State) (x : CmbRegs) : (s.setU6 x).u1 = s.u1 := rfl
@[simp] theorem State.setU6_u2 (s : State) (x : CmbRegs) : (s.setU6 x).u2 = s.u2 := rfl
@[simp] theorem State.setU6_u3 (s : State) (x : CmbRegs) : (s.setU6 x).u3 = s.u3 := rfl
@[simp] theorem State.setU6_u4 (s : State) (x : CmbRegs) : (s.setU6 x).u4 = s.u4 := rfl
@[simp] theorem State.setU6_u5 (s : State) (x : CmbRegs) : (s.setU6 x).u5 = s.u5 := rfl
@[simp] theorem State.setU6_u6 (s : State) (x : CmbRegs) : (s.setU6 x).u6 = x := rfl
@[simp] theorem State.setU6_mem (s : State) (x : CmbRegs) : (s.setU6 x).mem = s.mem := rfl
@[simp] theorem State.setU6_host (s : State) (x : CmbRegs) : (s.setU6 x).host = s.host := rfl

@[simp] theorem State.setMem_res (s : State) (x : Memory) : (s.setMem x).res = s.res := rfl
@[simp] theorem State.setMem_flt (s : State) (x : Memory) : (s.setMem x).flt = s.flt := rfl
@[simp] theorem State.setMem_u0 (s : State) (x : Memory) : (s.setMem x).u0 = s.u0 := rfl
@[simp] theorem State.setMem_u1 (s : State) (x : Memory) : (s.setMem x).u1 = s.u1 := rfl
@[simp] theorem State.setMem_u2 (s : State) (x : Memory) : (s.setMem x).u2 = s.u2 := rfl
@[simp] theorem State.setMem_u3 (s : State) (x : Memory) : (s.setMem x).u3 = s.u3 := rfl
@[simp] theorem State.setMem_u4 (s : State) (x : Memory) : (s.setMem x).u4 = s.u4 := rfl
@[simp] theorem State.setMem_u5 (s : State) (x : Memory) : (s.setMem x).u5 = s.u5 := rfl
@[simp] theorem State.setMem_u6 (s : State) (x : Memory) : (s.setMem x).u6 = s.u6 := rfl
@[simp] theorem State.setMem_mem (s : State) (x : Memory) : (s.setMem x).mem = x := rfl
@[simp] theorem State.setMem_host (s : State) (x : Memory) : (s.setMem x).host = s.host := rfl

@[simp] theorem State.setHost_res (s : State) (x : List HostEvent) : (s.setHost x).res = s.res := rfl
@[simp] theorem State.setHost_flt (s : State) (x : List HostEvent) : (s.setHost x).flt = s.flt := rfl
@[simp] theorem State.setHost_u0 (s : State) (x : List HostEvent) : (s.setHost x).u0 = s.u0 := rfl
@[simp] theorem State.setHost_u1 (s : State) (x : List HostEvent) : (s.setHost x).u1 = s.u1 := rfl
@[simp] theorem State.setHost_u2 (s : State) (x : List HostEvent) : (s.setHost x).u2 = s.u2 := rfl
@[simp] theorem State.setHost_u3 (s : State) (x : List HostEvent) : (s.setHost x).u3 = s.u3 := rfl
@[simp] theorem State.setHost_u4 (s : State) (x : List HostEvent) : (s.setHost x).u4 = s.u4 := rfl
@[simp] theorem State.setHost_u5 (s : State) (x : List HostEvent) : (s.setHost x).u5 = s.u5 := rfl
@[simp] theorem State.setHost_u6 (s : State) (x : List HostEvent) : (s.setHost x).u6 = s.u6 := rfl
@[simp] theorem State.setHost_mem (s : State) (x : List HostEvent) : (s.setHost x).mem = s.mem := rfl
@[simp] theorem State.setHost_host (s : State) (x : List HostEvent) : (s.setHost x).host = x := rfl

/-! ## The result registers -/

@[simp] theorem State.writeR0_res (s : State) (v : Word64) : (s.writeR0 v).res = { s.res with r0 := v } := rfl
@[simp] theorem State.writeR01_res (s : State) (v w : Word64) :
    (s.writeR01 v w).res = { s.res with r0 := v, r1 := w } := rfl
@[simp] theorem State.writeString4_res (s : State) (str : List Byte) :
    (s.writeString4 str).res = ⟨packedWord str 0, packedWord str 1, packedWord str 2, packedWord str 3⟩ := rfl

@[simp] theorem State.writeR0_flt (s : State) (v : Word64) : (s.writeR0 v).flt = s.flt := rfl
@[simp] theorem State.writeR0_u0 (s : State) (v : Word64) : (s.writeR0 v).u0 = s.u0 := rfl
@[simp] theorem State.writeR0_u1 (s : State) (v : Word64) : (s.writeR0 v).u1 = s.u1 := rfl
@[simp] theorem State.writeR0_u2 (s : State) (v : Word64) : (s.writeR0 v).u2 = s.u2 := rfl
@[simp] theorem State.writeR0_u3 (s : State) (v : Word64) : (s.writeR0 v).u3 = s.u3 := rfl
@[simp] theorem State.writeR0_u4 (s : State) (v : Word64) : (s.writeR0 v).u4 = s.u4 := rfl
@[simp] theorem State.writeR0_u5 (s : State) (v : Word64) : (s.writeR0 v).u5 = s.u5 := rfl
@[simp] theorem State.writeR0_u6 (s : State) (v : Word64) : (s.writeR0 v).u6 = s.u6 := rfl
@[simp] theorem State.writeR0_mem (s : State) (v : Word64) : (s.writeR0 v).mem = s.mem := rfl
@[simp] theorem State.writeR0_host (s : State) (v : Word64) : (s.writeR0 v).host = s.host := rfl

@[simp] theorem State.writeR01_flt (s : State) (v w : Word64) : (s.writeR01 v w).flt = s.flt := rfl
@[simp] theorem State.writeR01_u0 (s : State) (v w : Word64) : (s.writeR01 v w).u0 = s.u0 := rfl
@[simp] theorem State.writeR01_u1 (s : State) (v w : Word64) : (s.writeR01 v w).u1 = s.u1 := rfl
@[simp] theorem State.writeR01_u2 (s : State) (v w : Word64) : (s.writeR01 v w).u2 = s.u2 := rfl
@[simp] theorem State.writeR01_u3 (s : State) (v w : Word64) : (s.writeR01 v w).u3 = s.u3 := rfl
@[simp] theorem State.writeR01_u4 (s : State) (v w : Word64) : (s.writeR01 v w).u4 = s.u4 := rfl
@[simp] theorem State.writeR01_u5 (s : State) (v w : Word64) : (s.writeR01 v w).u5 = s.u5 := rfl
@[simp] theorem State.writeR01_u6 (s : State) (v w : Word64) : (s.writeR01 v w).u6 = s.u6 := rfl
@[simp] theorem State.writeR01_mem (s : State) (v w : Word64) : (s.writeR01 v w).mem = s.mem := rfl
@[simp] theorem State.writeR01_host (s : State) (v w : Word64) : (s.writeR01 v w).host = s.host := rfl

@[simp] theorem State.writeString4_flt (s : State) (v : List Byte) : (s.writeString4 v).flt = s.flt := rfl
@[simp] theorem State.writeString4_u0 (s : State) (v : List Byte) : (s.writeString4 v).u0 = s.u0 := rfl
@[simp] theorem State.writeString4_u1 (s : State) (v : List Byte) : (s.writeString4 v).u1 = s.u1 := rfl
@[simp] theorem State.writeString4_u2 (s : State) (v : List Byte) : (s.writeString4 v).u2 = s.u2 := rfl
@[simp] theorem State.writeString4_u3 (s : State) (v : List Byte) : (s.writeString4 v).u3 = s.u3 := rfl
@[simp] theorem State.writeString4_u4 (s : State) (v : List Byte) : (s.writeString4 v).u4 = s.u4 := rfl
@[simp] theorem State.writeString4_u5 (s : State) (v : List Byte) : (s.writeString4 v).u5 = s.u5 := rfl
@[simp] theorem State.writeString4_u6 (s : State) (v : List Byte) : (s.writeString4 v).u6 = s.u6 := rfl
@[simp] theorem State.writeString4_mem (s : State) (v : List Byte) : (s.writeString4 v).mem = s.mem := rfl
@[simp] theorem State.writeString4_host (s : State) (v : List Byte) : (s.writeString4 v).host = s.host := rfl

/-! ## A later update of the same part wins -/

@[simp] theorem State.setRes_setRes (s : State) (x y : ResultRegs) : (s.setRes x).setRes y = s.setRes y := rfl
@[simp] theorem State.setFlt_setFlt (s : State) (x y : FaultRegs) : (s.setFlt x).setFlt y = s.setFlt y := rfl
@[simp] theorem State.setU0_setU0 (s : State) (x y : Fnv32Regs) : (s.setU0 x).setU0 y = s.setU0 y := rfl
@[simp] theorem State.setU1_setU1 (s : State) (x y : Fnv64Regs) : (s.setU1 x).setU1 y = s.setU1 y := rfl
@[simp] theorem State.setU2_setU2 (s : State) (x y : Fnvj32Regs) : (s.setU2 x).setU2 y = s.setU2 y := rfl
@[simp] theorem State.setU3_setU3 (s : State) (x y : Fnvj64Regs) : (s.setU3 x).setU3 y = s.setU3 y := rfl
@[simp] theorem State.setU4_setU4 (s : State) (x y : M3aRegs) : (s.setU4 x).setU4 y = s.setU4 y := rfl
@[simp] theorem State.setU5_setU5 (s : State) (x y : M3fRegs) : (s.setU5 x).setU5 y = s.setU5 y := rfl
@[simp] theorem State.setU6_setU6 (s : State) (x y : CmbRegs) : (s.setU6 x).setU6 y = s.setU6 y := rfl
@[simp] theorem State.setMem_setMem (s : State) (x y : Memory) : (s.setMem x).setMem y = s.setMem y := rfl
@[simp] theorem State.setHost_setHost (s : State) (x y : List HostEvent) : (s.setHost x).setHost y = s.setHost y := rfl

/-! ## Fault entry and hardware reset -/

@[simp] theorem faultEntry_flt (c : FaultCode) (p : Packet) (s : State) :
    (faultEntry c p s).flt = ⟨statusOf c, p.cw, p.ops.a, p.ops.b⟩ := rfl
@[simp] theorem faultEntry_res (c : FaultCode) (p : Packet) (s : State) : (faultEntry c p s).res = s.res := rfl
@[simp] theorem faultEntry_u0 (c : FaultCode) (p : Packet) (s : State) : (faultEntry c p s).u0 = s.u0 := rfl
@[simp] theorem faultEntry_u1 (c : FaultCode) (p : Packet) (s : State) : (faultEntry c p s).u1 = s.u1 := rfl
@[simp] theorem faultEntry_u2 (c : FaultCode) (p : Packet) (s : State) : (faultEntry c p s).u2 = s.u2 := rfl
@[simp] theorem faultEntry_u3 (c : FaultCode) (p : Packet) (s : State) : (faultEntry c p s).u3 = s.u3 := rfl
@[simp] theorem faultEntry_u4 (c : FaultCode) (p : Packet) (s : State) : (faultEntry c p s).u4 = s.u4 := rfl
@[simp] theorem faultEntry_u5 (c : FaultCode) (p : Packet) (s : State) : (faultEntry c p s).u5 = s.u5 := rfl
@[simp] theorem faultEntry_u6 (c : FaultCode) (p : Packet) (s : State) : (faultEntry c p s).u6 = s.u6 := rfl
@[simp] theorem faultEntry_mem (c : FaultCode) (p : Packet) (s : State) : (faultEntry c p s).mem = s.mem := rfl
@[simp] theorem faultEntry_host (c : FaultCode) (p : Packet) (s : State) : (faultEntry c p s).host = s.host := rfl

@[simp] theorem hardwareReset_res (s : State) : (hardwareReset s).res = State.reset.res := rfl
@[simp] theorem hardwareReset_flt (s : State) : (hardwareReset s).flt = State.reset.flt := rfl
@[simp] theorem hardwareReset_u0 (s : State) : (hardwareReset s).u0 = State.reset.u0 := rfl
@[simp] theorem hardwareReset_u1 (s : State) : (hardwareReset s).u1 = State.reset.u1 := rfl
@[simp] theorem hardwareReset_u2 (s : State) : (hardwareReset s).u2 = State.reset.u2 := rfl
@[simp] theorem hardwareReset_u3 (s : State) : (hardwareReset s).u3 = State.reset.u3 := rfl
@[simp] theorem hardwareReset_u4 (s : State) : (hardwareReset s).u4 = State.reset.u4 := rfl
@[simp] theorem hardwareReset_u5 (s : State) : (hardwareReset s).u5 = State.reset.u5 := rfl
@[simp] theorem hardwareReset_u6 (s : State) : (hardwareReset s).u6 = State.reset.u6 := rfl
@[simp] theorem hardwareReset_mem (s : State) : (hardwareReset s).mem = s.mem := rfl
@[simp] theorem hardwareReset_host (s : State) : (hardwareReset s).host = s.host := rfl

/-! ## `STATUS.FAULT` -/

@[simp] theorem State.setRes_faulted (s : State) (x : ResultRegs) : (s.setRes x).faulted = s.faulted := rfl
@[simp] theorem State.setU0_faulted (s : State) (x : Fnv32Regs) : (s.setU0 x).faulted = s.faulted := rfl
@[simp] theorem State.setU1_faulted (s : State) (x : Fnv64Regs) : (s.setU1 x).faulted = s.faulted := rfl
@[simp] theorem State.setU2_faulted (s : State) (x : Fnvj32Regs) : (s.setU2 x).faulted = s.faulted := rfl
@[simp] theorem State.setU3_faulted (s : State) (x : Fnvj64Regs) : (s.setU3 x).faulted = s.faulted := rfl
@[simp] theorem State.setU4_faulted (s : State) (x : M3aRegs) : (s.setU4 x).faulted = s.faulted := rfl
@[simp] theorem State.setU5_faulted (s : State) (x : M3fRegs) : (s.setU5 x).faulted = s.faulted := rfl
@[simp] theorem State.setU6_faulted (s : State) (x : CmbRegs) : (s.setU6 x).faulted = s.faulted := rfl
@[simp] theorem State.setMem_faulted (s : State) (x : Memory) : (s.setMem x).faulted = s.faulted := rfl
@[simp] theorem State.setHost_faulted (s : State) (x : List HostEvent) : (s.setHost x).faulted = s.faulted := rfl

@[simp] theorem faultEntry_faulted (c : FaultCode) (p : Packet) (s : State) : (faultEntry c p s).faulted = true := by
  change (statusOf c).getLsbD 0 = true
  cases c <;> decide

@[simp] theorem hardwareReset_faulted (s : State) : (hardwareReset s).faulted = false := by
  change (0#32).getLsbD 0 = false
  decide

/-- Two states are equal when their parts are. -/
theorem State.eq_of_parts {s t : State} (hres : s.res = t.res) (hflt : s.flt = t.flt) (h0 : s.u0 = t.u0)
    (h1 : s.u1 = t.u1) (h2 : s.u2 = t.u2) (h3 : s.u3 = t.u3) (h4 : s.u4 = t.u4) (h5 : s.u5 = t.u5)
    (h6 : s.u6 = t.u6) (hmem : s.mem = t.mem) (hhost : s.host = t.host) : s = t := by
  cases s; cases t; simp_all

end Sys2Proof.Machine
end

