-- ==== Sys2Proof/Laws/Ops.lean ====
section
/-!
SUPPORT. Once for each shared operation, what it does: the guard of R285, the two checks, the procedures of the units
and what they leave alone, and the shells of the contract commands.
-/

namespace Sys2Proof.Machine

/-! ## The guard and the checks -/

theorem whenLive_of_live {s : State} (h : s.faulted = false) (f : State → Result) : whenLive s f = f s := by
  simp [whenLive, h]

theorem whenLive_of_faulted {s : State} (h : s.faulted = true) (f : State → Result) : whenLive s f = .next s := by
  simp [whenLive, h]

/-- All a guarded effect can do. -/
theorem whenLive_next {s t : State} {f : State → Result} (h : whenLive s f = .next t) :
    (s.faulted = true ∧ t = s) ∨ (s.faulted = false ∧ f s = .next t) := by
  cases hs : s.faulted
  · exact .inr ⟨rfl, by rwa [whenLive_of_live hs] at h⟩
  · rw [whenLive_of_faulted hs] at h
    exact .inl ⟨rfl, by injection h with h; exact h.symm⟩

theorem checkBounds_of_inBounds {s : State} {a n : Nat} (h : a + n ≤ s.mem.size) (p : Packet) (f : State → State) :
    checkBounds p a n s f = .next (f s) := by
  simp [checkBounds, h]

theorem checkBounds_of_outOfBounds {s : State} {a n : Nat} (h : s.mem.size < a + n) (p : Packet)
    (f : State → State) : checkBounds p a n s f = .next (faultEntry .bounds p s) := by
  simp [checkBounds, raiseFault, h]

/-- All the bounds check can do. -/
theorem checkBounds_next {p : Packet} {a n : Nat} {s t : State} {f : State → State}
    (h : checkBounds p a n s f = .next t) :
    (a + n ≤ s.mem.size ∧ t = f s) ∨ (s.mem.size < a + n ∧ t = faultEntry .bounds p s) := by
  rcases Nat.lt_or_ge s.mem.size (a + n) with hlt | hle
  · rw [checkBounds_of_outOfBounds hlt] at h
    exact .inr ⟨hlt, by injection h with h; exact h.symm⟩
  · rw [checkBounds_of_inBounds hle] at h
    exact .inl ⟨hle, by injection h with h; exact h.symm⟩

theorem checkBound_of_bound {s : State} (h : s.u6.bound = true) (p : Packet) (f : State → Result) :
    checkBound p s f = f s := by
  simp [checkBound, h]

theorem checkBound_of_unbound {s : State} (h : s.u6.bound = false) (p : Packet) (f : State → Result) :
    checkBound p s f = .next (faultEntry .unbound p s) := by
  simp [checkBound, raiseFault, h]

/-- All the check of the binding can do. -/
theorem checkBound_next {p : Packet} {s t : State} {f : State → Result} (h : checkBound p s f = .next t) :
    (s.u6.bound = true ∧ f s = .next t) ∨ (s.u6.bound = false ∧ t = faultEntry .unbound p s) := by
  cases hb : s.u6.bound
  · rw [checkBound_of_unbound hb] at h
    exact .inr ⟨rfl, by injection h with h; exact h.symm⟩
  · exact .inl ⟨rfl, by rwa [checkBound_of_bound hb] at h⟩

/-! ## The procedures of the units leave the rest of the state alone -/

section Frames

variable (k : HashUnit) (op : Operands) (b : Byte) (bs : List Byte) (s : State)

@[simp] theorem seedUnit_res : (seedUnit k op s).res = s.res := by cases k <;> rfl
@[simp] theorem seedUnit_flt : (seedUnit k op s).flt = s.flt := by cases k <;> rfl
@[simp] theorem seedUnit_u6 : (seedUnit k op s).u6 = s.u6 := by cases k <;> rfl
@[simp] theorem seedUnit_mem : (seedUnit k op s).mem = s.mem := by cases k <;> rfl
@[simp] theorem seedUnit_host : (seedUnit k op s).host = s.host := by cases k <;> rfl

@[simp] theorem resetUnit_res : (resetUnit k s).res = s.res := by cases k <;> rfl
@[simp] theorem resetUnit_flt : (resetUnit k s).flt = s.flt := by cases k <;> rfl
@[simp] theorem resetUnit_u6 : (resetUnit k s).u6 = s.u6 := by cases k <;> rfl
@[simp] theorem resetUnit_mem : (resetUnit k s).mem = s.mem := by cases k <;> rfl
@[simp] theorem resetUnit_host : (resetUnit k s).host = s.host := by cases k <;> rfl

@[simp] theorem byteUnit_res : (byteUnit k b s).res = s.res := by
  cases k
  · exact State.setU0_res s _
  · exact State.setU1_res s _
  · exact State.setU2_res s _
  · exact State.setU3_res s _
  · exact State.setU4_res s _
  · exact State.setU5_res s _
@[simp] theorem byteUnit_flt : (byteUnit k b s).flt = s.flt := by
  cases k
  · exact State.setU0_flt s _
  · exact State.setU1_flt s _
  · exact State.setU2_flt s _
  · exact State.setU3_flt s _
  · exact State.setU4_flt s _
  · exact State.setU5_flt s _
@[simp] theorem byteUnit_u6 : (byteUnit k b s).u6 = s.u6 := by
  cases k
  · exact State.setU0_u6 s _
  · exact State.setU1_u6 s _
  · exact State.setU2_u6 s _
  · exact State.setU3_u6 s _
  · exact State.setU4_u6 s _
  · exact State.setU5_u6 s _
@[simp] theorem byteUnit_mem : (byteUnit k b s).mem = s.mem := by
  cases k
  · exact State.setU0_mem s _
  · exact State.setU1_mem s _
  · exact State.setU2_mem s _
  · exact State.setU3_mem s _
  · exact State.setU4_mem s _
  · exact State.setU5_mem s _
@[simp] theorem byteUnit_host : (byteUnit k b s).host = s.host := by
  cases k
  · exact State.setU0_host s _
  · exact State.setU1_host s _
  · exact State.setU2_host s _
  · exact State.setU3_host s _
  · exact State.setU4_host s _
  · exact State.setU5_host s _

@[simp] theorem bytesUnit_res : (bytesUnit k bs s).res = s.res := by
  cases k
  · exact State.setU0_res s _
  · exact State.setU1_res s _
  · exact State.setU2_res s _
  · exact State.setU3_res s _
  · exact State.setU4_res s _
  · exact State.setU5_res s _
@[simp] theorem bytesUnit_flt : (bytesUnit k bs s).flt = s.flt := by
  cases k
  · exact State.setU0_flt s _
  · exact State.setU1_flt s _
  · exact State.setU2_flt s _
  · exact State.setU3_flt s _
  · exact State.setU4_flt s _
  · exact State.setU5_flt s _
@[simp] theorem bytesUnit_u6 : (bytesUnit k bs s).u6 = s.u6 := by
  cases k
  · exact State.setU0_u6 s _
  · exact State.setU1_u6 s _
  · exact State.setU2_u6 s _
  · exact State.setU3_u6 s _
  · exact State.setU4_u6 s _
  · exact State.setU5_u6 s _
@[simp] theorem bytesUnit_mem : (bytesUnit k bs s).mem = s.mem := by
  cases k
  · exact State.setU0_mem s _
  · exact State.setU1_mem s _
  · exact State.setU2_mem s _
  · exact State.setU3_mem s _
  · exact State.setU4_mem s _
  · exact State.setU5_mem s _
@[simp] theorem bytesUnit_host : (bytesUnit k bs s).host = s.host := by
  cases k
  · exact State.setU0_host s _
  · exact State.setU1_host s _
  · exact State.setU2_host s _
  · exact State.setU3_host s _
  · exact State.setU4_host s _
  · exact State.setU5_host s _

@[simp] theorem valueUnit_res : (valueUnit k s).2.res = s.res := by cases k <;> rfl
@[simp] theorem valueUnit_flt : (valueUnit k s).2.flt = s.flt := by cases k <;> rfl
@[simp] theorem valueUnit_u0 : (valueUnit k s).2.u0 = s.u0 := by cases k <;> rfl
@[simp] theorem valueUnit_u1 : (valueUnit k s).2.u1 = s.u1 := by cases k <;> rfl
@[simp] theorem valueUnit_u2 : (valueUnit k s).2.u2 = s.u2 := by cases k <;> rfl
@[simp] theorem valueUnit_u3 : (valueUnit k s).2.u3 = s.u3 := by cases k <;> rfl
@[simp] theorem valueUnit_u4 : (valueUnit k s).2.u4 = s.u4 := by cases k <;> rfl
@[simp] theorem valueUnit_u6 : (valueUnit k s).2.u6 = s.u6 := by cases k <;> rfl
@[simp] theorem valueUnit_mem : (valueUnit k s).2.mem = s.mem := by cases k <;> rfl
@[simp] theorem valueUnit_host : (valueUnit k s).2.host = s.host := by cases k <;> rfl

/-- The register file of a unit is what its procedures are functions of: feeding bytes one by one and at once. -/
theorem bytesUnit_cons (h : k ≠ .m3f) : bytesUnit k (b :: bs) s = bytesUnit k bs (byteUnit k b s) := by
  cases k
  · simp -implicitDefEqProofs only [bytesUnit, byteUnit, List.foldl_cons, State.setU0_u0, State.setU0_setU0]
  · simp -implicitDefEqProofs only [bytesUnit, byteUnit, List.foldl_cons, State.setU1_u1, State.setU1_setU1]
  · simp -implicitDefEqProofs only [bytesUnit, byteUnit, List.foldl_cons, State.setU2_u2, State.setU2_setU2]
  · simp -implicitDefEqProofs only [bytesUnit, byteUnit, List.foldl_cons, State.setU3_u3, State.setU3_setU3]
  · simp -implicitDefEqProofs only [bytesUnit, byteUnit, m3aBytes, List.foldl_cons, State.setU4_u4, State.setU4_setU4]
  · exact absurd rfl h

end Frames

/-! ## The shells -/

/-- All `INIT.k` can do. -/
theorem shellInit_next {k : HashUnit} {op : Operands} {s t : State} (h : shellInit k op s = .next t) :
    (s.faulted = true ∧ t = s) ∨ (s.faulted = false ∧ t = resetUnit k (seedUnit k op s)) := by
  refine (whenLive_next h).imp_right fun ⟨hl, ht⟩ => ⟨hl, ?_⟩
  injection ht with ht
  exact ht.symm

/-- All `RESET.k` can do. -/
theorem shellReset_next {k : HashUnit} {s t : State} (h : shellReset k s = .next t) :
    (s.faulted = true ∧ t = s) ∨ (s.faulted = false ∧ t = resetUnit k s) := by
  refine (whenLive_next h).imp_right fun ⟨hl, ht⟩ => ⟨hl, ?_⟩
  injection ht with ht
  exact ht.symm

/-- All `UPDB.k` can do. -/
theorem shellUpdb_next {k : HashUnit} {b : Byte} {s t : State} (h : shellUpdb k b s = .next t) :
    (s.faulted = true ∧ t = s) ∨ (s.faulted = false ∧ t = byteUnit k b s) := by
  refine (whenLive_next h).imp_right fun ⟨hl, ht⟩ => ⟨hl, ?_⟩
  injection ht with ht
  exact ht.symm

/-- All `UPDR.k` can do. -/
theorem shellUpdr_next {k : HashUnit} {p : Packet} {s t : State} (h : shellUpdr k p s = .next t) :
    (s.faulted = true ∧ t = s)
      ∨ (s.faulted = false ∧ addrOf p.ops + countOf p.ops ≤ s.mem.size
        ∧ t = bytesUnit k (memRead s.mem (addrOf p.ops) (countOf p.ops)) s)
      ∨ (s.faulted = false ∧ s.mem.size < addrOf p.ops + countOf p.ops ∧ t = faultEntry .bounds p s) := by
  rcases whenLive_next h with hf | ⟨hl, ht⟩
  · exact .inl hf
  · rcases checkBounds_next ht with ⟨hb, ht⟩ | ⟨hb, ht⟩
    · exact .inr (.inl ⟨hl, hb, ht⟩)
    · exact .inr (.inr ⟨hl, hb, ht⟩)

/-- All `GETV.k` can do. -/
theorem shellGetv_next {k : HashUnit} {s t : State} (h : shellGetv k s = .next t) :
    (s.faulted = true ∧ t = s) ∨ (s.faulted = false ∧ t = (valueUnit k s).2.writeR0 (valueUnit k s).1) := by
  refine (whenLive_next h).imp_right fun ⟨hl, ht⟩ => ⟨hl, ?_⟩
  injection ht with ht
  exact ht.symm

/-- All a value command of unit 5 can do. -/
theorem shellFinish_next {write : Word64 → Word64 → State → State} {s t : State}
    (h : shellFinish write s = .next t) :
    (s.faulted = true ∧ t = s)
      ∨ (s.faulted = false
        ∧ t = write (m3fFinish s.u5).1.1 (m3fFinish s.u5).1.2 (s.setU5 (m3fFinish s.u5).2)) := by
  refine (whenLive_next h).imp_right fun ⟨hl, ht⟩ => ⟨hl, ?_⟩
  injection ht with ht
  exact ht.symm

/-- All an array update can do. -/
theorem shellArray_next {width : Nat} {feed : Memory → Nat → Nat → M3aRegs → M3aRegs} {null : Bool} {p : Packet}
    {s t : State} (h : shellArray width feed null p s = .next t) :
    ((s.faulted = true ∨ null = true) ∧ t = s)
      ∨ (s.faulted = false ∧ null = false ∧ addrOf p.ops + arrayBytes width p.ops ≤ s.mem.size
        ∧ t = s.setU4 (feed s.mem (countOf p.ops) (addrOf p.ops) s.u4))
      ∨ (s.faulted = false ∧ null = false ∧ s.mem.size < addrOf p.ops + arrayBytes width p.ops
        ∧ t = faultEntry .bounds p s) := by
  rcases whenLive_next h with ⟨hf, rfl⟩ | ⟨hl, ht⟩
  · exact .inl ⟨.inl hf, rfl⟩
  · cases null
    · simp only [Bool.false_eq_true, if_false] at ht
      rcases checkBounds_next ht with ⟨hb, rfl⟩ | ⟨hb, rfl⟩
      · exact .inr (.inl ⟨hl, rfl, hb, rfl⟩)
      · exact .inr (.inr ⟨hl, rfl, hb, rfl⟩)
    · simp only [if_true] at ht
      injection ht with ht
      exact .inl ⟨.inr rfl, ht.symm⟩

end Sys2Proof.Machine
end

