-- ==== Sys2Proof/Laws/PerInstr.lean ====
section
/-!
SUPPORT. Statements made for every instruction, one lemma per constructor. `RowMatch`: the command word an instruction
encodes to is selected by its row of spec/opcode_table.json (R94), `(CW and mask) = match`, with the row's two numbers
written out from the table.
-/

namespace Sys2Proof.Laws.RowMatch

/-- The `mask` and `match` of an instruction's row. -/
def row : Instr → Word32 × Word32
  | .initFnv32 _ => (0xFFFFFFFF#32, 0x01000000#32)
  | .resetFnv32 _ => (0xFFFFFFFF#32, 0x02000000#32)
  | .updbFnv32 _ _ => (0xFFFFFF00#32, 0x03000000#32)
  | .updrFnv32 _ => (0xFFFFFFFF#32, 0x04000000#32)
  | .getvFnv32 _ => (0xFFFFFFFF#32, 0x05000000#32)
  | .initFnv64 _ => (0xFFFFFFFF#32, 0x01100000#32)
  | .resetFnv64 _ => (0xFFFFFFFF#32, 0x02100000#32)
  | .updbFnv64 _ _ => (0xFFFFFF00#32, 0x03100000#32)
  | .updrFnv64 _ => (0xFFFFFFFF#32, 0x04100000#32)
  | .getvFnv64 _ => (0xFFFFFFFF#32, 0x05100000#32)
  | .initFnvj32 _ => (0xFFFFFFFF#32, 0x01200000#32)
  | .resetFnvj32 _ => (0xFFFFFFFF#32, 0x02200000#32)
  | .updbFnvj32 _ _ => (0xFFFFFF00#32, 0x03200000#32)
  | .updrFnvj32 _ => (0xFFFFFFFF#32, 0x04200000#32)
  | .getvFnvj32 _ => (0xFFFFFFFF#32, 0x05200000#32)
  | .initFnvj64 _ => (0xFFFFFFFF#32, 0x01300000#32)
  | .resetFnvj64 _ => (0xFFFFFFFF#32, 0x02300000#32)
  | .updbFnvj64 _ _ => (0xFFFFFF00#32, 0x03300000#32)
  | .updrFnvj64 _ => (0xFFFFFFFF#32, 0x04300000#32)
  | .getvFnvj64 _ => (0xFFFFFFFF#32, 0x05300000#32)
  | .initM3a _ => (0xFFFFFFFF#32, 0x01400000#32)
  | .resetM3a _ => (0xFFFFFFFF#32, 0x02400000#32)
  | .updbM3a _ _ => (0xFFFFFF00#32, 0x03400000#32)
  | .updrM3a _ => (0xFFFFFFFF#32, 0x04400000#32)
  | .getvM3a _ => (0xFFFFFFFF#32, 0x05400000#32)
  | .upd16M3a _ => (0xFFFFFFFF#32, 0x10400000#32)
  | .upd32M3a _ => (0xFFFFFFFF#32, 0x11400000#32)
  | .upd64M3a _ => (0xFFFFFFFF#32, 0x12400000#32)
  | .upda16M3a _ _ => (0xFFFDFFFF#32, 0x14400000#32)
  | .upda32M3a _ _ => (0xFFFDFFFF#32, 0x15400000#32)
  | .upda64M3a _ _ => (0xFFFDFFFF#32, 0x16400000#32)
  | .initM3f _ => (0xFFFFFFFF#32, 0x01500000#32)
  | .resetM3f _ => (0xFFFFFFFF#32, 0x02500000#32)
  | .updbM3f _ _ => (0xFFFFFF00#32, 0x03500000#32)
  | .updrM3f _ => (0xFFFFFFFF#32, 0x04500000#32)
  | .getvM3f _ => (0xFFFFFFFF#32, 0x05500000#32)
  | .getvhM3f _ => (0xFFFFFFFF#32, 0x06500000#32)
  | .get128M3f _ => (0xFFFFFFFF#32, 0x07500000#32)
  | .getbeM3f _ => (0xFFFFFFFF#32, 0x08500000#32)
  | .getleM3f _ => (0xFFFFFFFF#32, 0x09500000#32)
  | .gethexM3f _ => (0xFFFFFFFF#32, 0x0A500000#32)
  | .upd64M3f _ _ => (0xFFFEFFFF#32, 0x12500000#32)
  | .resetCmb _ => (0xFFFFFFFF#32, 0x02600000#32)
  | .updbCmb _ _ => (0xFFFFFF00#32, 0x03600000#32)
  | .updrCmb _ => (0xFFFFFFFF#32, 0x04600000#32)
  | .getvCmb _ => (0xFFFFFFFF#32, 0x05600000#32)
  | .bindCmb _ _ _ => (0xFFFFFF88#32, 0x30600000#32)
  | .rd32Bor _ _ => (0xFFFEFFFF#32, 0x20700000#32)
  | .rd64Bor _ _ => (0xFFFEFFFF#32, 0x21700000#32)

/-- R94: the instruction's command word is selected by its row. -/
def Statement (i : Instr) : Prop := (encode i).cw &&& (row i).1 = (row i).2

theorem initFnv32 (op : Operands) : Statement (.initFnv32 op) := by
  change commandWord .init .fnv32 false false 0#8 &&& 0xFFFFFFFF#32 = 0x01000000#32
  decide

theorem resetFnv32 (op : Operands) : Statement (.resetFnv32 op) := by
  change commandWord .reset .fnv32 false false 0#8 &&& 0xFFFFFFFF#32 = 0x02000000#32
  decide

theorem updbFnv32 (byte : Byte) (op : Operands) : Statement (.updbFnv32 byte op) := by
  change commandWord .updb .fnv32 false false byte &&& 0xFFFFFF00#32 = 0x03000000#32
  revert byte
  decide

theorem updrFnv32 (op : Operands) : Statement (.updrFnv32 op) := by
  change commandWord .updr .fnv32 false false 0#8 &&& 0xFFFFFFFF#32 = 0x04000000#32
  decide

theorem getvFnv32 (op : Operands) : Statement (.getvFnv32 op) := by
  change commandWord .getv .fnv32 false false 0#8 &&& 0xFFFFFFFF#32 = 0x05000000#32
  decide

theorem initFnv64 (op : Operands) : Statement (.initFnv64 op) := by
  change commandWord .init .fnv64 false false 0#8 &&& 0xFFFFFFFF#32 = 0x01100000#32
  decide

theorem resetFnv64 (op : Operands) : Statement (.resetFnv64 op) := by
  change commandWord .reset .fnv64 false false 0#8 &&& 0xFFFFFFFF#32 = 0x02100000#32
  decide

theorem updbFnv64 (byte : Byte) (op : Operands) : Statement (.updbFnv64 byte op) := by
  change commandWord .updb .fnv64 false false byte &&& 0xFFFFFF00#32 = 0x03100000#32
  revert byte
  decide

theorem updrFnv64 (op : Operands) : Statement (.updrFnv64 op) := by
  change commandWord .updr .fnv64 false false 0#8 &&& 0xFFFFFFFF#32 = 0x04100000#32
  decide

theorem getvFnv64 (op : Operands) : Statement (.getvFnv64 op) := by
  change commandWord .getv .fnv64 false false 0#8 &&& 0xFFFFFFFF#32 = 0x05100000#32
  decide

theorem initFnvj32 (op : Operands) : Statement (.initFnvj32 op) := by
  change commandWord .init .fnvj32 false false 0#8 &&& 0xFFFFFFFF#32 = 0x01200000#32
  decide

theorem resetFnvj32 (op : Operands) : Statement (.resetFnvj32 op) := by
  change commandWord .reset .fnvj32 false false 0#8 &&& 0xFFFFFFFF#32 = 0x02200000#32
  decide

theorem updbFnvj32 (byte : Byte) (op : Operands) : Statement (.updbFnvj32 byte op) := by
  change commandWord .updb .fnvj32 false false byte &&& 0xFFFFFF00#32 = 0x03200000#32
  revert byte
  decide

theorem updrFnvj32 (op : Operands) : Statement (.updrFnvj32 op) := by
  change commandWord .updr .fnvj32 false false 0#8 &&& 0xFFFFFFFF#32 = 0x04200000#32
  decide

theorem getvFnvj32 (op : Operands) : Statement (.getvFnvj32 op) := by
  change commandWord .getv .fnvj32 false false 0#8 &&& 0xFFFFFFFF#32 = 0x05200000#32
  decide

theorem initFnvj64 (op : Operands) : Statement (.initFnvj64 op) := by
  change commandWord .init .fnvj64 false false 0#8 &&& 0xFFFFFFFF#32 = 0x01300000#32
  decide

theorem resetFnvj64 (op : Operands) : Statement (.resetFnvj64 op) := by
  change commandWord .reset .fnvj64 false false 0#8 &&& 0xFFFFFFFF#32 = 0x02300000#32
  decide

theorem updbFnvj64 (byte : Byte) (op : Operands) : Statement (.updbFnvj64 byte op) := by
  change commandWord .updb .fnvj64 false false byte &&& 0xFFFFFF00#32 = 0x03300000#32
  revert byte
  decide

theorem updrFnvj64 (op : Operands) : Statement (.updrFnvj64 op) := by
  change commandWord .updr .fnvj64 false false 0#8 &&& 0xFFFFFFFF#32 = 0x04300000#32
  decide

theorem getvFnvj64 (op : Operands) : Statement (.getvFnvj64 op) := by
  change commandWord .getv .fnvj64 false false 0#8 &&& 0xFFFFFFFF#32 = 0x05300000#32
  decide

theorem initM3a (op : Operands) : Statement (.initM3a op) := by
  change commandWord .init .m3a false false 0#8 &&& 0xFFFFFFFF#32 = 0x01400000#32
  decide

theorem resetM3a (op : Operands) : Statement (.resetM3a op) := by
  change commandWord .reset .m3a false false 0#8 &&& 0xFFFFFFFF#32 = 0x02400000#32
  decide

theorem updbM3a (byte : Byte) (op : Operands) : Statement (.updbM3a byte op) := by
  change commandWord .updb .m3a false false byte &&& 0xFFFFFF00#32 = 0x03400000#32
  revert byte
  decide

theorem updrM3a (op : Operands) : Statement (.updrM3a op) := by
  change commandWord .updr .m3a false false 0#8 &&& 0xFFFFFFFF#32 = 0x04400000#32
  decide

theorem getvM3a (op : Operands) : Statement (.getvM3a op) := by
  change commandWord .getv .m3a false false 0#8 &&& 0xFFFFFFFF#32 = 0x05400000#32
  decide

theorem upd16M3a (op : Operands) : Statement (.upd16M3a op) := by
  change commandWord .upd16 .m3a false false 0#8 &&& 0xFFFFFFFF#32 = 0x10400000#32
  decide

theorem upd32M3a (op : Operands) : Statement (.upd32M3a op) := by
  change commandWord .upd32 .m3a false false 0#8 &&& 0xFFFFFFFF#32 = 0x11400000#32
  decide

theorem upd64M3a (op : Operands) : Statement (.upd64M3a op) := by
  change commandWord .upd64 .m3a false false 0#8 &&& 0xFFFFFFFF#32 = 0x12400000#32
  decide

theorem upda16M3a (null : Bool) (op : Operands) : Statement (.upda16M3a null op) := by
  change commandWord .upda16 .m3a null false 0#8 &&& 0xFFFDFFFF#32 = 0x14400000#32
  revert null
  decide

theorem upda32M3a (null : Bool) (op : Operands) : Statement (.upda32M3a null op) := by
  change commandWord .upda32 .m3a null false 0#8 &&& 0xFFFDFFFF#32 = 0x15400000#32
  revert null
  decide

theorem upda64M3a (null : Bool) (op : Operands) : Statement (.upda64M3a null op) := by
  change commandWord .upda64 .m3a null false 0#8 &&& 0xFFFDFFFF#32 = 0x16400000#32
  revert null
  decide

theorem initM3f (op : Operands) : Statement (.initM3f op) := by
  change commandWord .init .m3f false false 0#8 &&& 0xFFFFFFFF#32 = 0x01500000#32
  decide

theorem resetM3f (op : Operands) : Statement (.resetM3f op) := by
  change commandWord .reset .m3f false false 0#8 &&& 0xFFFFFFFF#32 = 0x02500000#32
  decide

theorem updbM3f (byte : Byte) (op : Operands) : Statement (.updbM3f byte op) := by
  change commandWord .updb .m3f false false byte &&& 0xFFFFFF00#32 = 0x03500000#32
  revert byte
  decide

theorem updrM3f (op : Operands) : Statement (.updrM3f op) := by
  change commandWord .updr .m3f false false 0#8 &&& 0xFFFFFFFF#32 = 0x04500000#32
  decide

theorem getvM3f (op : Operands) : Statement (.getvM3f op) := by
  change commandWord .getv .m3f false false 0#8 &&& 0xFFFFFFFF#32 = 0x05500000#32
  decide

theorem getvhM3f (op : Operands) : Statement (.getvhM3f op) := by
  change commandWord .getvh .m3f false false 0#8 &&& 0xFFFFFFFF#32 = 0x06500000#32
  decide

theorem get128M3f (op : Operands) : Statement (.get128M3f op) := by
  change commandWord .get128 .m3f false false 0#8 &&& 0xFFFFFFFF#32 = 0x07500000#32
  decide

theorem getbeM3f (op : Operands) : Statement (.getbeM3f op) := by
  change commandWord .getbe .m3f false false 0#8 &&& 0xFFFFFFFF#32 = 0x08500000#32
  decide

theorem getleM3f (op : Operands) : Statement (.getleM3f op) := by
  change commandWord .getle .m3f false false 0#8 &&& 0xFFFFFFFF#32 = 0x09500000#32
  decide

theorem gethexM3f (op : Operands) : Statement (.gethexM3f op) := by
  change commandWord .gethex .m3f false false 0#8 &&& 0xFFFFFFFF#32 = 0x0A500000#32
  decide

theorem upd64M3f (bigEndian : Bool) (op : Operands) : Statement (.upd64M3f bigEndian op) := by
  change commandWord .upd64 .m3f false bigEndian 0#8 &&& 0xFFFEFFFF#32 = 0x12500000#32
  revert bigEndian
  decide

theorem resetCmb (op : Operands) : Statement (.resetCmb op) := by
  change commandWord .reset .cmb false false 0#8 &&& 0xFFFFFFFF#32 = 0x02600000#32
  decide

theorem updbCmb (byte : Byte) (op : Operands) : Statement (.updbCmb byte op) := by
  change commandWord .updb .cmb false false byte &&& 0xFFFFFF00#32 = 0x03600000#32
  revert byte
  decide

theorem updrCmb (op : Operands) : Statement (.updrCmb op) := by
  change commandWord .updr .cmb false false 0#8 &&& 0xFFFFFFFF#32 = 0x04600000#32
  decide

theorem getvCmb (op : Operands) : Statement (.getvCmb op) := by
  change commandWord .getv .cmb false false 0#8 &&& 0xFFFFFFFF#32 = 0x05600000#32
  decide

theorem bindCmb (sel1 sel2 : BitVec 3) (op : Operands) : Statement (.bindCmb sel1 sel2 op) := by
  change commandWord .bind .cmb false false (bindImm sel1 sel2) &&& 0xFFFFFF88#32 = 0x30600000#32
  revert sel1 sel2
  decide

theorem rd32Bor (bigEndian : Bool) (op : Operands) : Statement (.rd32Bor bigEndian op) := by
  change commandWord .rd32 .bor false bigEndian 0#8 &&& 0xFFFEFFFF#32 = 0x20700000#32
  revert bigEndian
  decide

theorem rd64Bor (bigEndian : Bool) (op : Operands) : Statement (.rd64Bor bigEndian op) := by
  change commandWord .rd64 .bor false bigEndian 0#8 &&& 0xFFFEFFFF#32 = 0x21700000#32
  revert bigEndian
  decide

end Sys2Proof.Laws.RowMatch
end

