-- ==== Sys2Proof/Laws/Units.lean ====
section
/-!
SUPPORT. The procedures of the units field by field, and the primitives R11 names in terms of the library's. A proof
that needs one field of a procedure's result cites the lemma here: to close `(fnv32Byte b u).seed = u.seed` and its like
by `rfl` makes the kernel compare the two register files first, and that comparison unfolds a multiplication by a large
literal.
-/

namespace Sys2Proof.Machine

/-! ## Rotations and byte order -/

theorem rotl32_eq_rotateLeft (x : Word32) (n : Nat) (h : n < 32) : rotl32 x n = x.rotateLeft n := by
  simp [rotl32, BitVec.rotateLeft_def, Nat.mod_eq_of_lt h]

theorem rotl64_eq_rotateLeft (x : Word64) (n : Nat) (h : n < 64) : rotl64 x n = x.rotateLeft n := by
  simp [rotl64, BitVec.rotateLeft_def, Nat.mod_eq_of_lt h]

/-! ## Construction -/

@[simp] theorem fnv32Reset_seed (u : Fnv32Regs) : (fnv32Reset u).seed = u.seed := by
  unfold fnv32Reset; rfl
@[simp] theorem fnv32Reset_acc (u : Fnv32Regs) : (fnv32Reset u).acc = fnv32Init ^^^ u.seed := by
  unfold fnv32Reset; rfl
@[simp] theorem fnv64Reset_seed (u : Fnv64Regs) : (fnv64Reset u).seed = u.seed := by
  unfold fnv64Reset; rfl
@[simp] theorem fnv64Reset_acc (u : Fnv64Regs) : (fnv64Reset u).acc = fnv64Init ^^^ u.seed := by
  unfold fnv64Reset; rfl
@[simp] theorem fnvj32Reset_seed (u : Fnvj32Regs) : (fnvj32Reset u).seed = u.seed := by
  unfold fnvj32Reset; rfl
@[simp] theorem fnvj32Reset_acc (u : Fnvj32Regs) : (fnvj32Reset u).acc = fnv32Init ^^^ u.seed := by
  unfold fnvj32Reset; rfl
@[simp] theorem fnvj32Reset_len (u : Fnvj32Regs) : (fnvj32Reset u).len = 0#32 := by
  unfold fnvj32Reset; rfl
@[simp] theorem fnvj32Reset_pw (u : Fnvj32Regs) : (fnvj32Reset u).pw = 0#32 := by
  unfold fnvj32Reset; rfl
@[simp] theorem fnvj32Reset_ppos (u : Fnvj32Regs) : (fnvj32Reset u).ppos = 0#2 := by
  unfold fnvj32Reset; rfl
@[simp] theorem fnvj64Reset_seed (u : Fnvj64Regs) : (fnvj64Reset u).seed = u.seed := by
  unfold fnvj64Reset; rfl
@[simp] theorem fnvj64Reset_acc (u : Fnvj64Regs) : (fnvj64Reset u).acc = fnv64Init ^^^ u.seed := by
  unfold fnvj64Reset; rfl
@[simp] theorem fnvj64Reset_len (u : Fnvj64Regs) : (fnvj64Reset u).len = 0#64 := by
  unfold fnvj64Reset; rfl
@[simp] theorem fnvj64Reset_pw (u : Fnvj64Regs) : (fnvj64Reset u).pw = 0#64 := by
  unfold fnvj64Reset; rfl
@[simp] theorem fnvj64Reset_ppos (u : Fnvj64Regs) : (fnvj64Reset u).ppos = 0#3 := by
  unfold fnvj64Reset; rfl
@[simp] theorem m3aReset_seed (u : M3aRegs) : (m3aReset u).seed = u.seed := by
  unfold m3aReset; rfl
@[simp] theorem m3aReset_h1 (u : M3aRegs) : (m3aReset u).h1 = u.seed := by
  unfold m3aReset; rfl
@[simp] theorem m3aReset_len (u : M3aRegs) : (m3aReset u).len = 0#32 := by
  unfold m3aReset; rfl
@[simp] theorem m3aReset_pk1 (u : M3aRegs) : (m3aReset u).pk1 = 0#32 := by
  unfold m3aReset; rfl
@[simp] theorem m3aReset_ppos (u : M3aRegs) : (m3aReset u).ppos = 0#2 := by
  unfold m3aReset; rfl
@[simp] theorem m3fReset_seed (u : M3fRegs) : (m3fReset u).seed = u.seed := by
  unfold m3fReset; rfl
@[simp] theorem m3fReset_h1 (u : M3fRegs) : (m3fReset u).h1 = u.seed.setWidth 64 := by
  unfold m3fReset; rfl
@[simp] theorem m3fReset_h2 (u : M3fRegs) : (m3fReset u).h2 = u.seed.setWidth 64 := by
  unfold m3fReset; rfl
@[simp] theorem m3fReset_len (u : M3fRegs) : (m3fReset u).len = 0#64 := by
  unfold m3fReset; rfl
@[simp] theorem m3fReset_pk1 (u : M3fRegs) : (m3fReset u).pk1 = 0#64 := by
  unfold m3fReset; rfl
@[simp] theorem m3fReset_pk2 (u : M3fRegs) : (m3fReset u).pk2 = 0#64 := by
  unfold m3fReset; rfl
@[simp] theorem m3fReset_ppos (u : M3fRegs) : (m3fReset u).ppos = 0#4 := by
  unfold m3fReset; rfl
@[simp] theorem m3fReset_finv (u : M3fRegs) : (m3fReset u).finv = false := by
  unfold m3fReset; rfl
@[simp] theorem m3fReset_finlo (u : M3fRegs) : (m3fReset u).finlo = u.finlo := by
  unfold m3fReset; rfl
@[simp] theorem m3fReset_finhi (u : M3fRegs) : (m3fReset u).finhi = u.finhi := by
  unfold m3fReset; rfl

/-! ## One byte -/

@[simp] theorem fnv32Byte_seed (b : Byte) (u : Fnv32Regs) : (fnv32Byte b u).seed = u.seed := by
  unfold fnv32Byte; rfl
@[simp] theorem fnv32Byte_acc (b : Byte) (u : Fnv32Regs) :
    (fnv32Byte b u).acc = (u.acc ^^^ b.setWidth 32) * fnv32Prime := by
  unfold fnv32Byte; rfl
@[simp] theorem fnv64Byte_seed (b : Byte) (u : Fnv64Regs) : (fnv64Byte b u).seed = u.seed := by
  unfold fnv64Byte; rfl
@[simp] theorem fnv64Byte_acc (b : Byte) (u : Fnv64Regs) :
    (fnv64Byte b u).acc = (u.acc ^^^ b.setWidth 64) * fnv64Prime := by
  unfold fnv64Byte; rfl
@[simp] theorem fnvj32Byte_seed (b : Byte) (u : Fnvj32Regs) : (fnvj32Byte b u).seed = u.seed := by
  unfold fnvj32Byte; split <;> simp_all
@[simp] theorem fnvj32Byte_len (b : Byte) (u : Fnvj32Regs) : (fnvj32Byte b u).len = u.len + 1#32 := by
  unfold fnvj32Byte; split <;> simp_all
@[simp] theorem fnvj32Byte_acc (b : Byte) (u : Fnvj32Regs) :
    (fnvj32Byte b u).acc = if u.ppos = 3#2 then u.acc * fnv32Prime ^^^ fnvj32Place b u else u.acc := by
  unfold fnvj32Byte; split <;> simp_all
@[simp] theorem fnvj32Byte_pw (b : Byte) (u : Fnvj32Regs) :
    (fnvj32Byte b u).pw = if u.ppos = 3#2 then 0#32 else fnvj32Place b u := by
  unfold fnvj32Byte; split <;> simp_all
@[simp] theorem fnvj32Byte_ppos (b : Byte) (u : Fnvj32Regs) : (fnvj32Byte b u).ppos = u.ppos + 1#2 := by
  unfold fnvj32Byte; split <;> simp_all
@[simp] theorem fnvj64Byte_seed (b : Byte) (u : Fnvj64Regs) : (fnvj64Byte b u).seed = u.seed := by
  unfold fnvj64Byte; split <;> simp_all
@[simp] theorem fnvj64Byte_len (b : Byte) (u : Fnvj64Regs) : (fnvj64Byte b u).len = u.len + 1#64 := by
  unfold fnvj64Byte; split <;> simp_all
@[simp] theorem fnvj64Byte_acc (b : Byte) (u : Fnvj64Regs) :
    (fnvj64Byte b u).acc = if u.ppos = 7#3 then u.acc * fnv64Prime ^^^ fnvj64Place b u else u.acc := by
  unfold fnvj64Byte; split <;> simp_all
@[simp] theorem fnvj64Byte_pw (b : Byte) (u : Fnvj64Regs) :
    (fnvj64Byte b u).pw = if u.ppos = 7#3 then 0#64 else fnvj64Place b u := by
  unfold fnvj64Byte; split <;> simp_all
@[simp] theorem fnvj64Byte_ppos (b : Byte) (u : Fnvj64Regs) : (fnvj64Byte b u).ppos = u.ppos + 1#3 := by
  unfold fnvj64Byte; split <;> simp_all
@[simp] theorem m3aByte_seed (b : Byte) (u : M3aRegs) : (m3aByte b u).seed = u.seed := by
  unfold m3aByte; split <;> simp_all
@[simp] theorem m3aByte_len (b : Byte) (u : M3aRegs) : (m3aByte b u).len = u.len + 1#32 := by
  unfold m3aByte; split <;> simp_all
@[simp] theorem m3aByte_h1 (b : Byte) (u : M3aRegs) :
    (m3aByte b u).h1 = if u.ppos = 3#2 then applyK1 (m3aPlace b u) u.h1 else u.h1 := by
  unfold m3aByte; split <;> simp_all
@[simp] theorem m3aByte_pk1 (b : Byte) (u : M3aRegs) :
    (m3aByte b u).pk1 = if u.ppos = 3#2 then 0#32 else m3aPlace b u := by
  unfold m3aByte; split <;> simp_all
@[simp] theorem m3aByte_ppos (b : Byte) (u : M3aRegs) : (m3aByte b u).ppos = u.ppos + 1#2 := by
  unfold m3aByte; split <;> simp_all
@[simp] theorem m3fByte_seed (b : Byte) (u : M3fRegs) : (m3fByte b u).seed = u.seed := by
  unfold m3fByte; split <;> simp_all
@[simp] theorem m3fByte_len (b : Byte) (u : M3fRegs) : (m3fByte b u).len = u.len + 1#64 := by
  unfold m3fByte; split <;> simp_all
@[simp] theorem m3fByte_h1 (b : Byte) (u : M3fRegs) :
    (m3fByte b u).h1 = if u.ppos = 15#4 then (applyKs (m3fPlace1 b u) (m3fPlace2 b u) u.h1 u.h2).1 else u.h1 := by
  unfold m3fByte; split <;> simp_all
@[simp] theorem m3fByte_h2 (b : Byte) (u : M3fRegs) :
    (m3fByte b u).h2 = if u.ppos = 15#4 then (applyKs (m3fPlace1 b u) (m3fPlace2 b u) u.h1 u.h2).2 else u.h2 := by
  unfold m3fByte; split <;> simp_all
@[simp] theorem m3fByte_pk1 (b : Byte) (u : M3fRegs) :
    (m3fByte b u).pk1 = if u.ppos = 15#4 then 0#64 else m3fPlace1 b u := by
  unfold m3fByte; split <;> simp_all
@[simp] theorem m3fByte_pk2 (b : Byte) (u : M3fRegs) :
    (m3fByte b u).pk2 = if u.ppos = 15#4 then 0#64 else m3fPlace2 b u := by
  unfold m3fByte; split <;> simp_all
@[simp] theorem m3fByte_ppos (b : Byte) (u : M3fRegs) : (m3fByte b u).ppos = u.ppos + 1#4 := by
  unfold m3fByte; split <;> simp_all
@[simp] theorem m3fByte_finv (b : Byte) (u : M3fRegs) : (m3fByte b u).finv = false := by
  unfold m3fByte; split <;> simp_all
@[simp] theorem m3fByte_finlo (b : Byte) (u : M3fRegs) : (m3fByte b u).finlo = u.finlo := by
  unfold m3fByte; split <;> simp_all
@[simp] theorem m3fByte_finhi (b : Byte) (u : M3fRegs) : (m3fByte b u).finhi = u.finhi := by
  unfold m3fByte; split <;> simp_all

/-! ## A list of bytes -/

theorem foldl_fnv32Byte_seed (bs : List Byte) (u : Fnv32Regs) :
    (bs.foldl (fun u b => fnv32Byte b u) u).seed = u.seed := by
  induction bs generalizing u with
  | nil => rfl
  | cons b bs ih => rw [List.foldl_cons, ih, fnv32Byte_seed]

theorem foldl_fnv64Byte_seed (bs : List Byte) (u : Fnv64Regs) :
    (bs.foldl (fun u b => fnv64Byte b u) u).seed = u.seed := by
  induction bs generalizing u with
  | nil => rfl
  | cons b bs ih => rw [List.foldl_cons, ih, fnv64Byte_seed]

theorem foldl_fnvj32Byte_seed (bs : List Byte) (u : Fnvj32Regs) :
    (bs.foldl (fun u b => fnvj32Byte b u) u).seed = u.seed := by
  induction bs generalizing u with
  | nil => rfl
  | cons b bs ih => rw [List.foldl_cons, ih, fnvj32Byte_seed]

theorem foldl_fnvj64Byte_seed (bs : List Byte) (u : Fnvj64Regs) :
    (bs.foldl (fun u b => fnvj64Byte b u) u).seed = u.seed := by
  induction bs generalizing u with
  | nil => rfl
  | cons b bs ih => rw [List.foldl_cons, ih, fnvj64Byte_seed]

@[simp] theorem m3aBytes_nil (u : M3aRegs) : m3aBytes [] u = u := rfl

@[simp] theorem m3aBytes_cons (b : Byte) (bs : List Byte) (u : M3aRegs) :
    m3aBytes (b :: bs) u = m3aBytes bs (m3aByte b u) := rfl

theorem m3aBytes_append (bs cs : List Byte) (u : M3aRegs) : m3aBytes (bs ++ cs) u = m3aBytes cs (m3aBytes bs u) :=
  List.foldl_append

@[simp] theorem m3aBytes_seed (bs : List Byte) (u : M3aRegs) : (m3aBytes bs u).seed = u.seed := by
  induction bs generalizing u with
  | nil => rfl
  | cons b bs ih => rw [m3aBytes_cons, ih, m3aByte_seed]

@[simp] theorem m3fBytes_finv (bs : List Byte) (u : M3fRegs) : (m3fBytes bs u).finv = false := by
  unfold m3fBytes; rfl

@[simp] theorem m3fBytes_seed (bs : List Byte) (u : M3fRegs) : (m3fBytes bs u).seed = u.seed := by
  suffices h : ∀ (bs : List Byte) (u : M3fRegs), (bs.foldl (fun u b => m3fByte b u) u).seed = u.seed from h bs u
  intro bs
  induction bs with
  | nil => exact fun _ => rfl
  | cons b bs ih => exact fun u => by rw [List.foldl_cons, ih, m3fByte_seed]

/-- A range update of unit 5 over at least one byte: the trailing `FINV <- 0` does not show. -/
theorem m3fBytes_cons (b : Byte) (bs : List Byte) (u : M3fRegs) :
    m3fBytes (b :: bs) u = m3fBytes bs (m3fByte b u) := by
  unfold m3fBytes; rw [List.foldl_cons]

/-! ## The finalized cache -/

theorem m3fFinish_of_valid {u : M3fRegs} (h : u.finv = true) : m3fFinish u = ((u.finlo, u.finhi), u) := by
  simp [m3fFinish, h]

theorem m3fFinish_of_invalid {u : M3fRegs} (h : u.finv = false) :
    m3fFinish u = (m3fFinal u, { u with finlo := (m3fFinal u).1, finhi := (m3fFinal u).2, finv := true }) := by
  simp [m3fFinish, h]

end Sys2Proof.Machine
end

