-- ==== Sys2Proof/Tests/Slice0.lean ====
section
/-!
SUPPORT. Tests: the well-formedness checks, every row's example packet of spec/95_test_vectors.md Part 3 through the
decoder, one or two single steps for each instruction with expected values from the worked examples of the rule files
(named in each comment), and for each statement with hypotheses a witness that meets them.
-/

open Sys2Proof Sys2Proof.Machine

namespace Sys2Proof.Tests

/-- No operands. -/
def noOps : Operands := ⟨0#64, 0#64⟩

/-- The reset state with an empty buffer. -/
def fresh : State := { State.reset with mem := ⟨0, []⟩ }

/-- The reset state with "foobar" in a buffer of six bytes. -/
def foobar : State :=
  { State.reset with mem := ⟨6, [(0, 0x66#8), (1, 0x6F#8), (2, 0x6F#8), (3, 0x62#8), (4, 0x61#8), (5, 0x72#8)]⟩ }

/-- The reset state with the bytes 01 to 08 in a buffer of eight bytes. -/
def eight : State :=
  { State.reset with mem := ⟨8, [(0, 1#8), (1, 2#8), (2, 3#8), (3, 4#8), (4, 5#8), (5, 6#8), (6, 7#8), (7, 8#8)]⟩ }

/-- The reset state with the document's 16-byte vector. -/
def v16 : State :=
  { State.reset with mem := ⟨16, [(0, 0xE0#8), (1, 0x4D#8), (2, 0x9F#8), (3, 0xCB#8), (4, 0xD5#8), (5, 0x6B#8),
    (6, 0xB9#8), (7, 0x53#8), (8, 0x42#8), (9, 0x87#8), (10, 0x08#8), (11, 0x36#8), (12, 0x77#8), (13, 0x23#8),
    (14, 0x01#8)]⟩ }

/-- Unit 5 after the 16-byte vector (R232). -/
def afterV16 : State :=
  { fresh with u5 := { fresh.u5 with h1 := 0x5FCF4B2427A9F2A9#64, h2 := 0x2B3BDECE5A698F5F#64, len := 16#64 } }

/-- The packer bound to FNV32 and M3A. -/
def bound : State := { foobar with u6 := ⟨true, .fnv32, .m3a⟩ }

/-- A block with a recorded fault, a command pending. -/
def dead : State :=
  { foobar with flt := ⟨0x11#32, 0x04000000#32, 0#64, 7#64⟩, host := [.packet ⟨0x05000000#32, noOps⟩] }

/-- The state an instruction answers, or the state itself where it stops. -/
def after (s : State) (i : Instr) : State :=
  match exec i s with
  | .next t => t
  | _ => s

/-! ## Well-formedness: an ill-formed term for each check -/

theorem test_bind_of_two_units_is_wellFormed : (Instr.bindCmb 0#3 4#3 noOps).wellFormed = true := by decide
theorem test_bind_first_selector_too_big : (Instr.bindCmb 6#3 4#3 noOps).wellFormed = false := by decide
theorem test_bind_second_selector_too_big : (Instr.bindCmb 0#3 7#3 noOps).wellFormed = false := by decide
theorem test_bind_same_unit_twice : (Instr.bindCmb 4#3 4#3 noOps).wellFormed = false := by decide

/-! ## Decoding: the example packets of Part 3 -/

/-- `INIT.FNV32 0x9747B28C`. -/
theorem test_decode_initFnv32 :
    decode ⟨0x01000000#32, ⟨0x000000009747B28C#64, 0x0000000000000000#64⟩⟩
      = .ok (.initFnv32 ⟨0x000000009747B28C#64, 0x0000000000000000#64⟩) := by rfl
/-- `RESET.FNV32`. -/
theorem test_decode_resetFnv32 : decode ⟨0x02000000#32, noOps⟩ = .ok (.resetFnv32 noOps) := by rfl
/-- `UPDB.FNV32 0x61`. -/
theorem test_decode_updbFnv32 : decode ⟨0x03000061#32, noOps⟩ = .ok (.updbFnv32 0x61#8 noOps) := by rfl
/-- `UPDR.FNV32 4, 12`. -/
theorem test_decode_updrFnv32 :
    decode ⟨0x04000000#32, ⟨0x0000000000000004#64, 0x000000000000000C#64⟩⟩
      = .ok (.updrFnv32 ⟨0x0000000000000004#64, 0x000000000000000C#64⟩) := by rfl
/-- `GETV.FNV32`. -/
theorem test_decode_getvFnv32 : decode ⟨0x05000000#32, noOps⟩ = .ok (.getvFnv32 noOps) := by rfl
/-- `INIT.FNV64 0x9747B28C`. -/
theorem test_decode_initFnv64 :
    decode ⟨0x01100000#32, ⟨0x000000009747B28C#64, 0x0000000000000000#64⟩⟩
      = .ok (.initFnv64 ⟨0x000000009747B28C#64, 0x0000000000000000#64⟩) := by rfl
/-- `RESET.FNV64`. -/
theorem test_decode_resetFnv64 : decode ⟨0x02100000#32, noOps⟩ = .ok (.resetFnv64 noOps) := by rfl
/-- `UPDB.FNV64 0x61`. -/
theorem test_decode_updbFnv64 : decode ⟨0x03100061#32, noOps⟩ = .ok (.updbFnv64 0x61#8 noOps) := by rfl
/-- `UPDR.FNV64 4, 12`. -/
theorem test_decode_updrFnv64 :
    decode ⟨0x04100000#32, ⟨0x0000000000000004#64, 0x000000000000000C#64⟩⟩
      = .ok (.updrFnv64 ⟨0x0000000000000004#64, 0x000000000000000C#64⟩) := by rfl
/-- `GETV.FNV64`. -/
theorem test_decode_getvFnv64 : decode ⟨0x05100000#32, noOps⟩ = .ok (.getvFnv64 noOps) := by rfl
/-- `INIT.FNVJ32 0x9747B28C`. -/
theorem test_decode_initFnvj32 :
    decode ⟨0x01200000#32, ⟨0x000000009747B28C#64, 0x0000000000000000#64⟩⟩
      = .ok (.initFnvj32 ⟨0x000000009747B28C#64, 0x0000000000000000#64⟩) := by rfl
/-- `RESET.FNVJ32`. -/
theorem test_decode_resetFnvj32 : decode ⟨0x02200000#32, noOps⟩ = .ok (.resetFnvj32 noOps) := by rfl
/-- `UPDB.FNVJ32 0x61`. -/
theorem test_decode_updbFnvj32 : decode ⟨0x03200061#32, noOps⟩ = .ok (.updbFnvj32 0x61#8 noOps) := by rfl
/-- `UPDR.FNVJ32 4, 12`. -/
theorem test_decode_updrFnvj32 :
    decode ⟨0x04200000#32, ⟨0x0000000000000004#64, 0x000000000000000C#64⟩⟩
      = .ok (.updrFnvj32 ⟨0x0000000000000004#64, 0x000000000000000C#64⟩) := by rfl
/-- `GETV.FNVJ32`. -/
theorem test_decode_getvFnvj32 : decode ⟨0x05200000#32, noOps⟩ = .ok (.getvFnvj32 noOps) := by rfl
/-- `INIT.FNVJ64 0x9747B28C`. -/
theorem test_decode_initFnvj64 :
    decode ⟨0x01300000#32, ⟨0x000000009747B28C#64, 0x0000000000000000#64⟩⟩
      = .ok (.initFnvj64 ⟨0x000000009747B28C#64, 0x0000000000000000#64⟩) := by rfl
/-- `RESET.FNVJ64`. -/
theorem test_decode_resetFnvj64 : decode ⟨0x02300000#32, noOps⟩ = .ok (.resetFnvj64 noOps) := by rfl
/-- `UPDB.FNVJ64 0x61`. -/
theorem test_decode_updbFnvj64 : decode ⟨0x03300061#32, noOps⟩ = .ok (.updbFnvj64 0x61#8 noOps) := by rfl
/-- `UPDR.FNVJ64 4, 12`. -/
theorem test_decode_updrFnvj64 :
    decode ⟨0x04300000#32, ⟨0x0000000000000004#64, 0x000000000000000C#64⟩⟩
      = .ok (.updrFnvj64 ⟨0x0000000000000004#64, 0x000000000000000C#64⟩) := by rfl
/-- `GETV.FNVJ64`. -/
theorem test_decode_getvFnvj64 : decode ⟨0x05300000#32, noOps⟩ = .ok (.getvFnvj64 noOps) := by rfl
/-- `INIT.M3A 0x9747B28C`. -/
theorem test_decode_initM3a :
    decode ⟨0x01400000#32, ⟨0x000000009747B28C#64, 0x0000000000000000#64⟩⟩
      = .ok (.initM3a ⟨0x000000009747B28C#64, 0x0000000000000000#64⟩) := by rfl
/-- `RESET.M3A`. -/
theorem test_decode_resetM3a : decode ⟨0x02400000#32, noOps⟩ = .ok (.resetM3a noOps) := by rfl
/-- `UPDB.M3A 0x61`. -/
theorem test_decode_updbM3a : decode ⟨0x03400061#32, noOps⟩ = .ok (.updbM3a 0x61#8 noOps) := by rfl
/-- `UPDR.M3A 4, 12`. -/
theorem test_decode_updrM3a :
    decode ⟨0x04400000#32, ⟨0x0000000000000004#64, 0x000000000000000C#64⟩⟩
      = .ok (.updrM3a ⟨0x0000000000000004#64, 0x000000000000000C#64⟩) := by rfl
/-- `GETV.M3A`. -/
theorem test_decode_getvM3a : decode ⟨0x05400000#32, noOps⟩ = .ok (.getvM3a noOps) := by rfl
/-- `UPD16.M3A 0x1234`. -/
theorem test_decode_upd16M3a :
    decode ⟨0x10400000#32, ⟨0x0000000000001234#64, 0x0000000000000000#64⟩⟩
      = .ok (.upd16M3a ⟨0x0000000000001234#64, 0x0000000000000000#64⟩) := by rfl
/-- `UPD32.M3A 0x12345678`. -/
theorem test_decode_upd32M3a :
    decode ⟨0x11400000#32, ⟨0x0000000012345678#64, 0x0000000000000000#64⟩⟩
      = .ok (.upd32M3a ⟨0x0000000012345678#64, 0x0000000000000000#64⟩) := by rfl
/-- `UPD64.M3A 0x0123456789ABCDEF`. -/
theorem test_decode_upd64M3a :
    decode ⟨0x12400000#32, ⟨0x0123456789ABCDEF#64, 0x0000000000000000#64⟩⟩
      = .ok (.upd64M3a ⟨0x0123456789ABCDEF#64, 0x0000000000000000#64⟩) := by rfl
/-- `UPDA16.M3A 8, 2`. -/
theorem test_decode_upda16M3a :
    decode ⟨0x14400000#32, ⟨0x0000000000000008#64, 0x0000000000000002#64⟩⟩
      = .ok (.upda16M3a false ⟨0x0000000000000008#64, 0x0000000000000002#64⟩) := by rfl
/-- `UPDA32.M3A 8, 2`. -/
theorem test_decode_upda32M3a :
    decode ⟨0x15400000#32, ⟨0x0000000000000008#64, 0x0000000000000002#64⟩⟩
      = .ok (.upda32M3a false ⟨0x0000000000000008#64, 0x0000000000000002#64⟩) := by rfl
/-- `UPDA64.M3A 8, 2`. -/
theorem test_decode_upda64M3a :
    decode ⟨0x16400000#32, ⟨0x0000000000000008#64, 0x0000000000000002#64⟩⟩
      = .ok (.upda64M3a false ⟨0x0000000000000008#64, 0x0000000000000002#64⟩) := by rfl
/-- `INIT.M3F 0x9747B28C`. -/
theorem test_decode_initM3f :
    decode ⟨0x01500000#32, ⟨0x000000009747B28C#64, 0x0000000000000000#64⟩⟩
      = .ok (.initM3f ⟨0x000000009747B28C#64, 0x0000000000000000#64⟩) := by rfl
/-- `RESET.M3F`. -/
theorem test_decode_resetM3f : decode ⟨0x02500000#32, noOps⟩ = .ok (.resetM3f noOps) := by rfl
/-- `UPDB.M3F 0x61`. -/
theorem test_decode_updbM3f : decode ⟨0x03500061#32, noOps⟩ = .ok (.updbM3f 0x61#8 noOps) := by rfl
/-- `UPDR.M3F 4, 12`. -/
theorem test_decode_updrM3f :
    decode ⟨0x04500000#32, ⟨0x0000000000000004#64, 0x000000000000000C#64⟩⟩
      = .ok (.updrM3f ⟨0x0000000000000004#64, 0x000000000000000C#64⟩) := by rfl
/-- `GETV.M3F`. -/
theorem test_decode_getvM3f : decode ⟨0x05500000#32, noOps⟩ = .ok (.getvM3f noOps) := by rfl
/-- `GETVH.M3F`. -/
theorem test_decode_getvhM3f : decode ⟨0x06500000#32, noOps⟩ = .ok (.getvhM3f noOps) := by rfl
/-- `GET128.M3F`. -/
theorem test_decode_get128M3f : decode ⟨0x07500000#32, noOps⟩ = .ok (.get128M3f noOps) := by rfl
/-- `GETBE.M3F`. -/
theorem test_decode_getbeM3f : decode ⟨0x08500000#32, noOps⟩ = .ok (.getbeM3f noOps) := by rfl
/-- `GETLE.M3F`. -/
theorem test_decode_getleM3f : decode ⟨0x09500000#32, noOps⟩ = .ok (.getleM3f noOps) := by rfl
/-- `GETHEX.M3F`. -/
theorem test_decode_gethexM3f : decode ⟨0x0A500000#32, noOps⟩ = .ok (.gethexM3f noOps) := by rfl
/-- `UPD64.M3F 0x0123456789ABCDEF, BE`. -/
theorem test_decode_upd64M3f :
    decode ⟨0x12510000#32, ⟨0x0123456789ABCDEF#64, 0x0000000000000000#64⟩⟩
      = .ok (.upd64M3f true ⟨0x0123456789ABCDEF#64, 0x0000000000000000#64⟩) := by rfl
/-- `RESET.CMB`. -/
theorem test_decode_resetCmb : decode ⟨0x02600000#32, noOps⟩ = .ok (.resetCmb noOps) := by rfl
/-- `UPDB.CMB 0x61`. -/
theorem test_decode_updbCmb : decode ⟨0x03600061#32, noOps⟩ = .ok (.updbCmb 0x61#8 noOps) := by rfl
/-- `UPDR.CMB 4, 12`. -/
theorem test_decode_updrCmb :
    decode ⟨0x04600000#32, ⟨0x0000000000000004#64, 0x000000000000000C#64⟩⟩
      = .ok (.updrCmb ⟨0x0000000000000004#64, 0x000000000000000C#64⟩) := by rfl
/-- `GETV.CMB`. -/
theorem test_decode_getvCmb : decode ⟨0x05600000#32, noOps⟩ = .ok (.getvCmb noOps) := by rfl
/-- `BIND.CMB FNV32, M3A`. -/
theorem test_decode_bindCmb : decode ⟨0x30600040#32, noOps⟩ = .ok (.bindCmb 0#3 4#3 noOps) := by rfl
/-- `RD32.BOR 5, BE`. -/
theorem test_decode_rd32Bor :
    decode ⟨0x20710000#32, ⟨0x0000000000000005#64, 0x0000000000000000#64⟩⟩
      = .ok (.rd32Bor true ⟨0x0000000000000005#64, 0x0000000000000000#64⟩) := by rfl
/-- `RD64.BOR 5, BE`. -/
theorem test_decode_rd64Bor :
    decode ⟨0x21710000#32, ⟨0x0000000000000005#64, 0x0000000000000000#64⟩⟩
      = .ok (.rd64Bor true ⟨0x0000000000000005#64, 0x0000000000000000#64⟩) := by rfl

/-- `UPDA32.M3A NULL`. -/
theorem test_decode_null_array : decode ⟨0x15420000#32, noOps⟩ = .ok (.upda32M3a true noOps) := by rfl

/-- R290: the four orders of faults of the decoder. -/
theorem test_decode_priority :
    decode ⟨0xFFF00000#32, noOps⟩ = .error .illegalOp ∧ decode ⟨0x01F000FF#32, noOps⟩ = .error .illegalUnit
    ∧ decode ⟨0x04610000#32, noOps⟩ = .error .illegalField ∧ decode ⟨0x15420001#32, noOps⟩ = .error .illegalField := by
  refine ⟨?_, ?_, ?_, ?_⟩ <;> rfl

/-- The host's probe numbers bits from the command word up: `RD64.BOR 3, BE` of R95, with its operand above bit 31. -/
theorem test_decodeTableWord :
    decodeTableWord 160 (3 * 2 ^ 32 + 0x21710000) = some (.rd64Bor true ⟨3#64, 0#64⟩)
    ∧ decodeTableWord 32 (3 * 2 ^ 32 + 0x21710000) = some (.rd64Bor true noOps) := by decide

/-- The presented packet is what the next step runs. -/
theorem test_withFetchWord : step (State.reset.withFetchWord 32 0x03000061) = exec (.updbFnv32 0x61#8 noOps) State.reset :=
  by rfl

/-- R92: one line of text, and the listing of its packet. -/
theorem test_assemble : assemble 6 "UPDR.FNVJ64 0, 16 ; text".toList = some [⟨0x04300000#32, ⟨0#64, 16#64⟩⟩] := by decide

/-- R93: a pseudo-instruction. -/
theorem test_assemble_pseudo : assemble 6 "UPD64BE.M3F 0x0123456789ABCDEF".toList
    = some [⟨0x12510000#32, ⟨0x0123456789ABCDEF#64, 0#64⟩⟩] := by decide

theorem test_listing : String.ofList (listing ⟨0x04300000#32, ⟨0#64, 16#64⟩⟩)
    = "0x04300000 0x0000000000000000 0x0000000000000010" := by decide

/-! ## One step of each instruction -/

/-- R143. -/
theorem test_initFnv32 : (after fresh (.initFnv32 ⟨1#64, 0#64⟩)).u0 = ⟨1#32, 0x811C9DC4#32⟩ := by decide
/-- R143: the high half of `A` is ignored. -/
theorem test_initFnv32_high_bits :
    (after fresh (.initFnv32 ⟨0xFFFFFFFF00000000#64, 5#64⟩)).u0 = ⟨0#32, 0x811C9DC5#32⟩ := by decide
/-- R144: the stored seed comes back. -/
theorem test_resetFnv32 :
    (after { fresh with u0 := ⟨1#32, 7#32⟩ } (.resetFnv32 noOps)).u0 = ⟨1#32, 0x811C9DC4#32⟩ := by decide
/-- R145. -/
theorem test_updbFnv32 : (after fresh (.updbFnv32 0x61#8 noOps)).u0.acc = 0xE40C292C#32 := by decide
/-- R146. -/
theorem test_updrFnv32 : (after foobar (.updrFnv32 ⟨0#64, 6#64⟩)).u0.acc = 0xBF9CF968#32 := by decide
/-- R282: one byte too many. -/
theorem test_updrFnv32_bounds :
    after foobar (.updrFnv32 ⟨0#64, 7#64⟩) = { foobar with flt := ⟨0x11#32, 0x04000000#32, 0#64, 7#64⟩ } := by decide
/-- R147. -/
theorem test_getvFnv32 : (after fresh (.getvFnv32 noOps)).res = ⟨0x00000000811C9DC5#64, 0#64, 0#64, 0#64⟩ := by decide
/-- R151: all 64 bits of the seed. -/
theorem test_initFnv64 :
    (after fresh (.initFnv64 ⟨0x8000000000000001#64, 0#64⟩)).u1
      = ⟨0x8000000000000001#64, 0x4BF29CE484222324#64⟩ := by decide
/-- R152. -/
theorem test_resetFnv64 :
    (after { fresh with u1 := ⟨0#64, 7#64⟩ } (.resetFnv64 noOps)).u1.acc = 0xCBF29CE484222325#64 := by decide
/-- R153. -/
theorem test_updbFnv64 : (after fresh (.updbFnv64 0x61#8 noOps)).u1.acc = 0xAF63DC4C8601EC8C#64 := by decide
/-- R154. -/
theorem test_updrFnv64 : (after foobar (.updrFnv64 ⟨0#64, 6#64⟩)).u1.acc = 0x85944171F73967E8#64 := by decide
/-- R155. -/
theorem test_getvFnv64 : (after fresh (.getvFnv64 noOps)).res.r0 = 0xCBF29CE484222325#64 := by decide
/-- R166. -/
theorem test_initFnvj32 :
    (after fresh (.initFnvj32 ⟨1#64, 0#64⟩)).u2 = ⟨1#32, 0x811C9DC4#32, 0#32, 0#32, 0#2⟩ := by decide
/-- R167: a pending byte is discarded. -/
theorem test_resetFnvj32 :
    (after { fresh with u2 := ⟨0#32, 5#32, 1#32, 0xCC000000#32, 1#2⟩ } (.resetFnvj32 noOps)).u2
      = ⟨0#32, 0x811C9DC5#32, 0#32, 0#32, 0#2⟩ := by decide
/-- R168: the fourth byte completes the word. -/
theorem test_updbFnvj32 :
    (after { fresh with u2 := ⟨0#32, 0x811C9DC5#32, 3#32, 0xCC243100#32, 3#2⟩ } (.updbFnvj32 0xC4#8 noOps)).u2
      = ⟨0#32, 0xC9286CDB#32, 4#32, 0#32, 0#2⟩ := by decide
/-- R168: the second byte. -/
theorem test_updbFnvj32_place :
    (after { fresh with u2 := ⟨0#32, 0x811C9DC5#32, 1#32, 0xCC000000#32, 1#2⟩ } (.updbFnvj32 0x24#8 noOps)).u2
      = ⟨0#32, 0x811C9DC5#32, 2#32, 0xCC240000#32, 2#2⟩ := by decide
/-- Vector V3, its first two words. -/
theorem test_updrFnvj32 :
    (after v16 (.updrFnvj32 ⟨0#64, 8#64⟩)).u2 = ⟨0#32, 0x6FEE0AEF#32, 8#32, 0#32, 0#2⟩ := by decide
/-- R170. -/
theorem test_getvFnvj32 :
    (after { fresh with u2 := ⟨0#32, 0xC9286CDB#32, 4#32, 0#32, 0#2⟩ } (.getvFnvj32 noOps)).res.r0
      = 0x252B0A1F#64 := by decide
/-- R170: with a pending word. -/
theorem test_getvFnvj32_pending :
    (after { fresh with u2 := ⟨0#32, 0x811C9DC5#32, 3#32, 0xCC243100#32, 3#2⟩ } (.getvFnvj32 noOps)).res.r0
      = 0x3859204A#64 := by decide
/-- R174. -/
theorem test_initFnvj64 :
    (after fresh (.initFnvj64 ⟨1#64, 0#64⟩)).u3 = ⟨1#64, 0xCBF29CE484222324#64, 0#64, 0#64, 0#3⟩ := by decide
/-- R175. -/
theorem test_resetFnvj64 :
    (after { fresh with u3 := ⟨0#64, 5#64, 9#64, 0xCC00000000000000#64, 1#3⟩ } (.resetFnvj64 noOps)).u3
      = ⟨0#64, 0xCBF29CE484222325#64, 0#64, 0#64, 0#3⟩ := by decide
/-- Vector V4, its fourth byte: no word is complete. -/
theorem test_updbFnvj64 :
    (after { fresh with u3 := ⟨0#64, 0xCBF29CE484222325#64, 3#64, 0xCC24310000000000#64, 3#3⟩
      } (.updbFnvj64 0xC4#8 noOps)).u3
      = ⟨0#64, 0xCBF29CE484222325#64, 4#64, 0xCC2431C400000000#64, 4#3⟩ := by decide
/-- R177. -/
theorem test_updrFnvj64 :
    (after v16 (.updrFnvj64 ⟨0#64, 16#64⟩)).u3 = ⟨0#64, 0xB7F43FC4CA15B6E4#64, 16#64, 0#64, 0#3⟩ := by decide
/-- R178: with a pending word. -/
theorem test_getvFnvj64 :
    (after { fresh with u3 := ⟨0#64, 0xCBF29CE484222325#64, 4#64, 0xCC2431C400000000#64, 4#3⟩
      } (.getvFnvj64 noOps)).res.r0
      = 0x480372B46C0F28EB#64 := by decide
/-- R178: four zero bytes are folded although `PW` is zero. -/
theorem test_getvFnvj64_zero_word :
    (after { fresh with u3 := ⟨0#64, 0xCBF29CE484222325#64, 4#64, 0#64, 4#3⟩ } (.getvFnvj64 noOps)).res.r0
      = 0xD94D0E186C0F28EB#64 := by decide
/-- R197: the high half of `A` is ignored. -/
theorem test_initM3a :
    (after fresh (.initM3a ⟨0xFFFFFFFFFFFFFFFF#64, 0#64⟩)).u4
      = ⟨0xFFFFFFFF#32, 0xFFFFFFFF#32, 0#32, 0#32, 0#2⟩ := by decide
/-- R198. -/
theorem test_resetM3a :
    (after { fresh with u4 := ⟨7#32, 1#32, 2#32, 3#32, 2#2⟩ } (.resetM3a noOps)).u4
      = ⟨7#32, 7#32, 0#32, 0#32, 0#2⟩ := by decide
/-- R199: the fourth byte of "test". -/
theorem test_updbM3a :
    (after { fresh with u4 := ⟨0#32, 0#32, 3#32, 0x00736574#32, 3#2⟩ } (.updbM3a 0x74#8 noOps)).u4
      = ⟨0#32, 0x7985975B#32, 4#32, 0#32, 0#2⟩ := by decide
/-- Program P3: "foobar". -/
theorem test_updrM3a :
    (after foobar (.updrM3a ⟨0#64, 6#64⟩)).u4 = ⟨0#32, 0x07F455CA#32, 6#32, 0x00007261#32, 2#2⟩ := by decide
/-- Program P4, step 4: no byte of the range is consumed. -/
theorem test_updrM3a_bounds :
    after foobar (.updrM3a ⟨4#64, 3#64⟩) = { foobar with flt := ⟨0x11#32, 0x04400000#32, 4#64, 3#64⟩ } := by decide
/-- R202. -/
theorem test_getvM3a :
    (after { fresh with u4 := ⟨0#32, 0x7985975B#32, 4#32, 0#32, 0#2⟩ } (.getvM3a noOps)).res.r0
      = 0xBA6BD213#64 := by decide
/-- R202: with a pending block. -/
theorem test_getvM3a_pending :
    (after { fresh with u4 := ⟨0#32, 0x7985975B#32, 5#32, 0x21#32, 1#2⟩ } (.getvM3a noOps)).res.r0
      = 0xC06A4F35#64 := by decide
/-- R203: the second half of "test". -/
theorem test_upd16M3a :
    (after { fresh with u4 := ⟨0#32, 0#32, 2#32, 0x6574#32, 2#2⟩ } (.upd16M3a ⟨0xFFFF7473#64, 0#64⟩)).u4
      = ⟨0#32, 0x7985975B#32, 4#32, 0#32, 0#2⟩ := by decide
/-- R204: a value across two blocks. -/
theorem test_upd32M3a :
    (after { fresh with u4 := ⟨0#32, 0#32, 1#32, 0x74#32, 1#2⟩ } (.upd32M3a ⟨0x21747365#64, 0#64⟩)).u4
      = ⟨0#32, 0x7985975B#32, 5#32, 0x21#32, 1#2⟩ := by decide
/-- R205. -/
theorem test_upd64M3a :
    (after fresh (.upd64M3a ⟨0x0807060504030201#64, 0#64⟩)).u4 = ⟨0#32, 0xCB14A3C9#32, 8#32, 0#32, 0#2⟩ := by decide
/-- R206. -/
theorem test_upda16M3a :
    (after eight (.upda16M3a false ⟨0#64, 4#64⟩)).u4 = ⟨0#32, 0xCB14A3C9#32, 8#32, 0#32, 0#2⟩ := by decide
/-- Program P5, step 4. -/
theorem test_upda16M3a_null : after eight (.upda16M3a true ⟨0xDEAD#64, 0xBEEF#64⟩) = eight := by decide
/-- R207. -/
theorem test_upda32M3a :
    (after eight (.upda32M3a false ⟨0#64, 2#64⟩)).u4 = ⟨0#32, 0xCB14A3C9#32, 8#32, 0#32, 0#2⟩ := by decide
/-- R282: the null form makes no bounds check. -/
theorem test_upda32M3a_null :
    after eight (.upda32M3a true ⟨0xFFFFFFFFFFFFFFFF#64, 0xFFFFFFFFFFFFFFFF#64⟩) = eight := by decide
/-- R208. -/
theorem test_upda64M3a :
    (after eight (.upda64M3a false ⟨0#64, 1#64⟩)).u4 = ⟨0#32, 0xCB14A3C9#32, 8#32, 0#32, 0#2⟩ := by decide
/-- R282: `8 * B` does not wrap. -/
theorem test_upda64M3a_bounds :
    (after eight (.upda64M3a false ⟨0#64, 0x2000000000000000#64⟩)).flt
      = ⟨0x11#32, 0x16400000#32, 0#64, 0x2000000000000000#64⟩ := by decide
/-- R229: the seed is zero-extended. -/
theorem test_initM3f :
    (after fresh (.initM3f ⟨0xFFFFFFFFFFFFFFFF#64, 0#64⟩)).u5
      = ⟨0xFFFFFFFF#32, 0x00000000FFFFFFFF#64, 0x00000000FFFFFFFF#64, 0#64, 0#64, 0#64, 0#4, false, 0#64, 0#64⟩ := by decide
/-- R230: the cache becomes invalid. -/
theorem test_resetM3f :
    (after { fresh with u5 := ⟨1#32, 5#64, 6#64, 4#64, 7#64, 0#64, 4#4, true, 8#64, 9#64⟩ } (.resetM3f noOps)).u5
      = ⟨1#32, 1#64, 1#64, 0#64, 0#64, 0#64, 0#4, false, 8#64, 9#64⟩ := by decide
/-- R231: the ninth byte goes to the second half. -/
theorem test_updbM3f :
    (after { fresh with u5 := ⟨0#32, 0#64, 0#64, 8#64, 0x07060504030201AA#64, 0#64, 8#4, true, 0#64, 0#64⟩
      } (.updbM3f 8#8 noOps)).u5
      = ⟨0#32, 0#64, 0#64, 9#64, 0x07060504030201AA#64, 8#64, 9#4, false, 0#64, 0#64⟩ := by decide
/-- R232. -/
theorem test_updrM3f :
    (after v16 (.updrM3f ⟨0#64, 16#64⟩)).u5
      = ⟨0#32, 0x5FCF4B2427A9F2A9#64, 0x2B3BDECE5A698F5F#64, 16#64, 0#64, 0#64, 0#4, false, 0#64, 0#64⟩ := by decide
/-- R233, and the cache of R226. -/
theorem test_getvM3f :
    (after afterV16 (.getvM3f noOps)).res.r0 = 0xEDB199D42D778EBB#64
    ∧ (after afterV16 (.getvM3f noOps)).u5.finv = true := by decide
/-- Vector V8: four pending bytes. -/
theorem test_getvM3f_pending :
    (after { fresh with u5 := ⟨0#32, 0#64, 0#64, 4#64, 0xC43124CC#64, 0#64, 4#4, false, 0#64, 0#64⟩
      } (.getvM3f noOps)).res.r0
      = 0x14885FE730885297#64 := by decide
/-- R234. -/
theorem test_getvhM3f : (after afterV16 (.getvhM3f noOps)).res = ⟨0xC6DEC4069552440B#64, 0#64, 0#64, 0#64⟩ := by decide
/-- R236. -/
theorem test_get128M3f :
    (after afterV16 (.get128M3f noOps)).res = ⟨0xEDB199D42D778EBB#64, 0xC6DEC4069552440B#64, 0#64, 0#64⟩ := by decide
/-- R237. -/
theorem test_getbeM3f :
    (after afterV16 (.getbeM3f noOps)).res = ⟨0x0B44529506C4DEC6#64, 0xBB8E772DD499B1ED#64, 0#64, 0#64⟩ := by decide
/-- R238. -/
theorem test_getleM3f :
    (after afterV16 (.getleM3f noOps)).res = ⟨0xEDB199D42D778EBB#64, 0xC6DEC4069552440B#64, 0#64, 0#64⟩ := by decide
/-- R239. -/
theorem test_gethexM3f :
    (after afterV16 (.gethexM3f noOps)).res
      = ⟨0x3630346365643663#64, 0x6230343432353539#64, 0x3464393931626465#64, 0x6262653837376432#64⟩ := by decide
/-- R240. -/
theorem test_upd64M3f_le :
    (after fresh (.upd64M3f false ⟨0x0807060504030201#64, 0#64⟩)).u5
      = ⟨0#32, 0#64, 0#64, 8#64, 0x0807060504030201#64, 0#64, 8#4, false, 0#64, 0#64⟩ := by decide
/-- R240. -/
theorem test_upd64M3f_be :
    (after fresh (.upd64M3f true ⟨0x0102030405060708#64, 0#64⟩)).u5
      = ⟨0#32, 0#64, 0#64, 8#64, 0x0807060504030201#64, 0#64, 8#4, false, 0#64, 0#64⟩ := by decide
/-- R263. -/
theorem test_resetCmb :
    (after { bound with u0 := ⟨0#32, 5#32⟩, u4 := ⟨7#32, 1#32, 1#32, 1#32, 1#2⟩
      } (.resetCmb noOps)).u0.acc
      = 0x811C9DC5#32
    ∧ (after { bound with u4 := ⟨7#32, 1#32, 1#32, 1#32, 1#2⟩ } (.resetCmb noOps)).u4 = ⟨7#32, 7#32, 0#32, 0#32, 0#2⟩ := by decide
/-- R264. -/
theorem test_updbCmb :
    (after bound (.updbCmb 0x61#8 noOps)).u0.acc = 0xE40C292C#32
    ∧ (after bound (.updbCmb 0x61#8 noOps)).u4 = ⟨0#32, 0#32, 1#32, 0x61#32, 1#2⟩ := by decide
/-- R289. -/
theorem test_updbCmb_unbound :
    after foobar (.updbCmb 0x61#8 noOps) = { foobar with flt := ⟨0x51#32, 0x03600061#32, 0#64, 0#64⟩ } := by decide
/-- Program P3, step 2. -/
theorem test_updrCmb :
    (after bound (.updrCmb ⟨0#64, 6#64⟩)).u0.acc = 0xBF9CF968#32
    ∧ (after bound (.updrCmb ⟨0#64, 6#64⟩)).u4 = ⟨0#32, 0x07F455CA#32, 6#32, 0x00007261#32, 2#2⟩ := by decide
/-- Program P3, step 3. -/
theorem test_getvCmb :
    (after { bound with u0 := ⟨0#32, 0xBF9CF968#32⟩, u4 := ⟨0#32, 0x07F455CA#32, 6#32, 0x00007261#32, 2#2⟩
      } (.getvCmb noOps)).res.r0
      = 0xA4C4D4BDBF9CF968#64 := by decide
/-- R261. -/
theorem test_bindCmb : after foobar (.bindCmb 0#3 4#3 noOps) = bound := by decide
/-- R261. -/
theorem test_bindCmb_same_unit :
    after foobar (.bindCmb 4#3 4#3 noOps) = { foobar with flt := ⟨0x41#32, 0x30600044#32, 0#64, 0#64⟩ } := by decide
/-- R112, both orders, at an unaligned address. -/
theorem test_rd32Bor :
    (after v16 (.rd32Bor false ⟨1#64, 0#64⟩)).res.r0 = 0x00000000D5CB9F4D#64
    ∧ (after v16 (.rd32Bor true ⟨1#64, 0#64⟩)).res.r0 = 0x000000004D9FCBD5#64 := by decide
/-- R282: `3 + 4 > 6`. -/
theorem test_rd32Bor_bounds :
    (after foobar (.rd32Bor false ⟨3#64, 0#64⟩)).flt = ⟨0x11#32, 0x20700000#32, 3#64, 0#64⟩ := by decide
/-- R113, both orders. -/
theorem test_rd64Bor :
    (after v16 (.rd64Bor false ⟨0#64, 0#64⟩)).res.r0 = 0x53B96BD5CB9F4DE0#64
    ∧ (after v16 (.rd64Bor true ⟨0#64, 0#64⟩)).res.r0 = 0xE04D9FCBD56BB953#64 := by decide
/-- R285. -/
theorem test_dead_ignores : after dead (.initM3a ⟨1#64, 0#64⟩) = dead := by decide

/-- R60, R61: a host write is seen, other bytes stay, and the listing stays canonical when the byte becomes 0 again. -/
theorem test_host_write : (foobar.mem.write 2 0#8).wf = true ∧ (foobar.mem.write 2 0#8).byteAt 2 = 0#8
    ∧ (foobar.mem.write 2 0#8).byteAt 3 = 0x62#8 ∧ (foobar.mem.write 2 0#8).cells.length = 5 := by decide

/-! ## Witnesses: each statement's hypotheses are met together -/

/-- An accepted packet. -/
theorem witness_EncodeOfDecode : decode ⟨0x21710000#32, ⟨3#64, 0#64⟩⟩ = .ok (.rd64Bor true ⟨3#64, 0#64⟩) := by rfl
/-- A packet for each branch of the order of checks, the last two at the boundary. -/
theorem witness_DecodeOrder :
    dead.faulted = true ∧ foobar.faulted = false ∧ definedOp ⟨0x0B000000#32, noOps⟩ = false
    ∧ (definedOp ⟨0x01600000#32, noOps⟩ = true ∧ legalPair ⟨0x01600000#32, noOps⟩ = false)
    ∧ (legalPair ⟨0x05000001#32, noOps⟩ = true ∧ fieldError ⟨0x05000001#32, noOps⟩ = true)
    ∧ (fieldError ⟨0x04600000#32, noOps⟩ = false ∧ needsBinding ⟨0x04600000#32, noOps⟩ = true ∧ foobar.u6.bound = false)
    ∧ (needsBinding ⟨0x04000000#32, ⟨6#64, 1#64⟩⟩ = false ∧ foobar.mem.size < rangeEnd ⟨0x04000000#32, ⟨6#64, 1#64⟩⟩)
    ∧ (fieldError ⟨0x04000000#32, ⟨6#64, 0#64⟩⟩ = false
      ∧ ¬ foobar.mem.size < rangeEnd ⟨0x04000000#32, ⟨6#64, 0#64⟩⟩) := by decide
theorem witness_IllegalOpRaised :
    foobar.faulted = false ∧ decode ⟨0x00000000#32, noOps⟩ = .error .illegalOp := ⟨by decide, by rfl⟩
theorem witness_IllegalUnitRaised :
    foobar.faulted = false ∧ definedOp ⟨0x01800000#32, noOps⟩ = true
    ∧ decode ⟨0x01800000#32, noOps⟩ = .error .illegalUnit := ⟨by decide, by decide, by rfl⟩
theorem witness_IllegalFieldRaised :
    foobar.faulted = false ∧ definedOp ⟨0x30600055#32, noOps⟩ = true ∧ legalPair ⟨0x30600055#32, noOps⟩ = true
    ∧ fieldError ⟨0x30600055#32, noOps⟩ = true ∧ definedOp ⟨0x30600054#32, noOps⟩ = true
    ∧ legalPair ⟨0x30600054#32, noOps⟩ = true ∧ fieldError ⟨0x30600054#32, noOps⟩ = false := by decide
theorem witness_UnboundRaised : foobar.faulted = false ∧ foobar.u6.bound = false := by decide
/-- Both sides of each bound, for `UPDR`, the arrays and the reads, on a buffer of 6 or 8 bytes. -/
theorem witness_BoundsRaised :
    foobar.faulted = false ∧ bound.faulted = false ∧ bound.u6.bound = true
    ∧ foobar.mem.size < (7#64 : Word64).toNat + (0#64 : Word64).toNat
    ∧ ¬ foobar.mem.size < (6#64 : Word64).toNat + (0#64 : Word64).toNat
    ∧ eight.faulted = false ∧ eight.mem.size < (1#64 : Word64).toNat + 2 * (4#64 : Word64).toNat
    ∧ ¬ eight.mem.size < (0#64 : Word64).toNat + 8 * (1#64 : Word64).toNat
    ∧ eight.mem.size < (5#64 : Word64).toNat + 4 ∧ ¬ eight.mem.size < (0#64 : Word64).toNat + 8 := by decide
theorem witness_FaultEntryRecords : foobar.faulted = false := by decide
theorem witness_FaultIsSticky :
    dead.faulted = true ∧ ({ dead with host := [.hardwareReset] } : State).faulted = true
    ∧ step { dead with host := [.hardwareReset] } = .next (hardwareReset { dead with host := [] })
    ∧ (hardwareReset { dead with host := [] }).faulted = false := ⟨by decide, by decide, by rfl, by decide⟩
theorem witness_FaultedRunOnlyConsumesPackets :
    dead.faulted = true ∧ ∀ ev ∈ dead.host, ∃ p : Packet, ev = .packet p := ⟨by decide, fun _ h => ⟨_, by simpa [dead] using h⟩⟩
theorem witness_StepRunsDecodedInstruction :
    ({ foobar with host := [.packet ⟨0x03000061#32, noOps⟩] } : State).faulted = false
    ∧ decode ⟨0x03000061#32, noOps⟩ = .ok (.updbFnv32 0x61#8 noOps)
    ∧ ({ foobar with host := [.packet ⟨0#32, noOps⟩] } : State).faulted = false
    ∧ decode ⟨0#32, noOps⟩ = .error .illegalOp ∧ dead.host = [.packet ⟨0x05000000#32, noOps⟩] ∧ dead.faulted = true := ⟨by decide, by rfl, by decide, by rfl, by rfl, by decide⟩
/-- Nothing pending; a write at the last byte and one just beyond it; a hardware reset. -/
theorem witness_StepHostEvents :
    foobar.host = [] ∧ foobar.mem.wf = true
    ∧ ({ foobar with host := [.bufWrite 5 1#8] } : State).host = [.bufWrite 5 1#8] ∧ 5 < foobar.mem.size
    ∧ ({ foobar with host := [.bufWrite 6 1#8] } : State).host = [.bufWrite 6 1#8] ∧ ¬ 6 < foobar.mem.size
    ∧ ({ dead with host := [.hardwareReset] } : State).host = [.hardwareReset] := by decide
theorem witness_HardwareResetValues :
    (State.reset = State.reset ∨ ∃ s0 : State, State.reset = hardwareReset s0)
    ∧ (hardwareReset dead = State.reset ∨ ∃ s0 : State, hardwareReset dead = hardwareReset s0) := ⟨.inl rfl, .inr ⟨dead, rfl⟩⟩
theorem witness_StepKeepsInv :
    ({ foobar with host := [.packet ⟨0x04500000#32, ⟨0#64, 6#64⟩⟩] } : State).Inv
    ∧ step { foobar with host := [.packet ⟨0x04500000#32, ⟨0#64, 6#64⟩⟩] } = .next (after foobar (.updrM3f ⟨0#64, 6#64⟩)) := ⟨by decide, by rfl⟩
/-- One instruction for each shape of the statement. -/
theorem witness_ResultRegistersWrittenByValueCommandsOnly :
    exec (.getvFnv32 noOps) fresh = .next (after fresh (.getvFnv32 noOps))
    ∧ exec (.get128M3f noOps) afterV16 = .next (after afterV16 (.get128M3f noOps))
    ∧ exec (.updbFnv32 1#8 noOps) fresh = .next (after fresh (.updbFnv32 1#8 noOps)) := ⟨by rfl, by rfl, by rfl⟩
theorem witness_SeedsChangeOnlyByInit :
    exec (.resetFnv64 noOps) fresh = .next (after fresh (.resetFnv64 noOps))
    ∧ (∀ op, Instr.resetFnv64 noOps ≠ .initFnv64 op) ∧ fresh.faulted = false := ⟨by rfl, by simp, by decide⟩
theorem witness_BindingChangesOnlyByBind :
    exec (.updbCmb 1#8 noOps) bound = .next (after bound (.updbCmb 1#8 noOps))
    ∧ (∀ s1 s2 op, Instr.updbCmb 1#8 noOps ≠ .bindCmb s1 s2 op) ∧ bound.u6.bound = true := ⟨by rfl, by simp, by decide⟩
theorem witness_Fnv32Construction : fresh.faulted = false := by decide
theorem witness_Fnv64Construction : fresh.faulted = false := by decide
theorem witness_Fnvj32Construction : fresh.faulted = false := by decide
theorem witness_Fnvj64Construction : fresh.faulted = false := by decide
theorem witness_Fnvj32Value : fresh.faulted = false := by decide
theorem witness_Fnvj64Value : fresh.faulted = false := by decide
theorem witness_M3aConstruction : fresh.faulted = false := by decide
theorem witness_M3aValue : fresh.faulted = false := by decide
theorem witness_M3aTypedUpdates : fresh.faulted = false := by decide
theorem witness_M3fConstruction : fresh.faulted = false := by decide
theorem witness_M3fStrings : fresh.faulted = false := by decide
theorem witness_M3fValues :
    fresh.faulted = false ∧ fresh.u5.finv = false ∧ (after afterV16 (.getvM3f noOps)).faulted = false
    ∧ (after afterV16 (.getvM3f noOps)).u5.finv = true := by decide
theorem witness_Fnv32Updates :
    foobar.faulted = false ∧ (2#64 : Word64).toNat + (4#64 : Word64).toNat ≤ foobar.mem.size
    ∧ foobar.mem.size < (2#64 : Word64).toNat + (5#64 : Word64).toNat := by decide
theorem witness_Fnv64Updates :
    foobar.faulted = false ∧ (2#64 : Word64).toNat + (4#64 : Word64).toNat ≤ foobar.mem.size
    ∧ foobar.mem.size < (2#64 : Word64).toNat + (5#64 : Word64).toNat := by decide
theorem witness_Fnvj32Updates :
    foobar.faulted = false ∧ (2#64 : Word64).toNat + (4#64 : Word64).toNat ≤ foobar.mem.size
    ∧ foobar.mem.size < (2#64 : Word64).toNat + (5#64 : Word64).toNat := by decide
theorem witness_Fnvj64Updates :
    foobar.faulted = false ∧ (2#64 : Word64).toNat + (4#64 : Word64).toNat ≤ foobar.mem.size
    ∧ foobar.mem.size < (2#64 : Word64).toNat + (5#64 : Word64).toNat := by decide
theorem witness_M3aUpdates :
    foobar.faulted = false ∧ (2#64 : Word64).toNat + (4#64 : Word64).toNat ≤ foobar.mem.size
    ∧ foobar.mem.size < (2#64 : Word64).toNat + (5#64 : Word64).toNat := by decide
theorem witness_M3fUpdates :
    foobar.faulted = false ∧ (2#64 : Word64).toNat + (4#64 : Word64).toNat ≤ foobar.mem.size
    ∧ foobar.mem.size < (2#64 : Word64).toNat + (5#64 : Word64).toNat := by decide
theorem witness_M3aArrayUpdates :
    eight.faulted = false ∧ (0#64 : Word64).toNat + 2 * (4#64 : Word64).toNat ≤ eight.mem.size
    ∧ (4#64 : Word64).toNat + 4 * (1#64 : Word64).toNat ≤ eight.mem.size
    ∧ (0#64 : Word64).toNat + 8 * (1#64 : Word64).toNat ≤ eight.mem.size
    ∧ eight.mem.size < (1#64 : Word64).toNat + 2 * (4#64 : Word64).toNat
    ∧ eight.mem.size < (5#64 : Word64).toNat + 4 * (1#64 : Word64).toNat
    ∧ eight.mem.size < (1#64 : Word64).toNat + 8 * (1#64 : Word64).toNat := by decide
/-- An empty array at the end of the buffer and one just beyond it. -/
theorem witness_M3aNullArrays :
    eight.faulted = false ∧ (⟨8#64, 0#64⟩ : Operands).b = 0#64 ∧ (8#64 : Word64).toNat ≤ eight.mem.size
    ∧ ¬ (9#64 : Word64).toNat ≤ eight.mem.size := by decide
/-- The last legal pair, each kind of illegal pair, and each fixed bit of the immediate. -/
theorem witness_CmbBind :
    foobar.faulted = false ∧ ((5#3 : BitVec 3).toNat ≤ 5 ∧ (4#3 : BitVec 3).toNat ≤ 5 ∧ (5#3 : BitVec 3) ≠ 4#3)
    ∧ ¬ ((6#3 : BitVec 3).toNat ≤ 5) ∧ (0x08#8 : Byte).getLsbD 3 = true ∧ (0x80#8 : Byte).getLsbD 7 = true := by decide
theorem witness_CmbForward :
    bound.faulted = false ∧ bound.u6.bound = true ∧ bound.u6.sel1 ≠ bound.u6.sel2
    ∧ (2#64 : Word64).toNat + (4#64 : Word64).toNat ≤ bound.mem.size
    ∧ bound.mem.size < (2#64 : Word64).toNat + (5#64 : Word64).toNat ∧ foobar.faulted = false ∧ foobar.u6.bound = false := by decide
theorem witness_CmbValue :
    bound.faulted = false ∧ bound.u6.bound = true ∧ foobar.faulted = false ∧ foobar.u6.bound = false := by decide
theorem witness_BorReads :
    eight.faulted = false ∧ (4#64 : Word64).toNat + 4 ≤ eight.mem.size ∧ eight.mem.size < (5#64 : Word64).toNat + 4
    ∧ (0#64 : Word64).toNat + 8 ≤ eight.mem.size ∧ eight.mem.size < (1#64 : Word64).toNat + 8 := by decide
theorem witness_FnvjDatapath :
    v16.faulted = false ∧ (1#64 : Word64).toNat + (15#64 : Word64).toNat ≤ v16.mem.size
    ∧ (v16.u2.ppos = 0#2 → v16.u2.pw = 0#32) ∧ (v16.u3.ppos = 0#3 → v16.u3.pw = 0#64) := by decide
theorem witness_MurmurDatapath :
    v16.faulted = false ∧ (1#64 : Word64).toNat + (15#64 : Word64).toNat ≤ v16.mem.size
    ∧ (v16.u4.ppos = 0#2 → v16.u4.pk1 = 0#32) ∧ (v16.u5.ppos = 0#4 → v16.u5.pk1 = 0#64)
    ∧ (v16.u5.ppos.toNat ≤ 8 → v16.u5.pk2 = 0#64) := by decide
theorem witness_FnvjEagerForm : fresh.faulted = false ∧ Fnvj32Inv fresh.u2 ∧ Fnvj64Inv fresh.u3 := by decide
/-- Two splits of the first three bytes of "foobar". -/
theorem witness_ChunkingInvariance :
    foobar.faulted = false ∧ (∀ p ∈ [Piece.range ⟨0#64, 2#64⟩, .byte 0x6F#8] ++ [.byte 0x66#8, .range ⟨1#64, 2#64⟩], p.fits foobar.mem = true)
    ∧ [Piece.range ⟨0#64, 2#64⟩, .byte 0x6F#8].flatMap (Piece.bytes foobar.mem)
      = [Piece.byte 0x66#8, .range ⟨1#64, 2#64⟩].flatMap (Piece.bytes foobar.mem) := by decide
theorem witness_PackerChunking :
    bound.faulted = false ∧ bound.u6.bound = true ∧ bound.u6.sel1 ≠ bound.u6.sel2
    ∧ (∀ p ∈ [Piece.range ⟨0#64, 2#64⟩, .byte 0x6F#8] ++ [.byte 0x66#8, .range ⟨1#64, 2#64⟩], p.fits bound.mem = true)
    ∧ [Piece.range ⟨0#64, 2#64⟩, .byte 0x6F#8].flatMap (Piece.bytes bound.mem)
      = [Piece.byte 0x66#8, .range ⟨1#64, 2#64⟩].flatMap (Piece.bytes bound.mem) := by decide
theorem witness_TypedUpdatesAreByteUpdates :
    eight.faulted = false ∧ (0#64 : Word64).toNat + 2 * (4#64 : Word64).toNat ≤ eight.mem.size
    ∧ 2 * (4#64 : Word64).toNat < 2 ^ 64 ∧ (4#64 : Word64).toNat + 4 * (1#64 : Word64).toNat ≤ eight.mem.size
    ∧ 4 * (1#64 : Word64).toNat < 2 ^ 64 ∧ (0#64 : Word64).toNat + 8 * (1#64 : Word64).toNat ≤ eight.mem.size
    ∧ 8 * (1#64 : Word64).toNat < 2 ^ 64 := by decide
theorem witness_ValueCommandsDoNotMutate :
    fresh.faulted = false ∧ (∃ k : HashUnit, Instr.getvFnv32 noOps = getvOf k noOps)
    ∧ Instr.gethexM3f noOps ∈ [Instr.getvhM3f noOps, .get128M3f noOps, .getbeM3f noOps, .getleM3f noOps, .gethexM3f noOps]
    ∧ bound.faulted = false ∧ bound.u6.bound = true := ⟨by decide, ⟨.fnv32, rfl⟩, by decide, by decide, by decide⟩
theorem witness_ResetIdempotence : foobar.faulted = false ∧ v16.faulted = false := by decide
/-- A state with an invalid cache and one with a valid one. -/
theorem witness_CacheIsUnobservable :
    CacheInv fresh.u5 ∧ CacheInv (after afterV16 (.getvM3f noOps)).u5 ∧ (after afterV16 (.getvM3f noOps)).u5.finv = true := by decide
theorem witness_LengthAndPartialBlockOfAStream : fresh.faulted = false := by decide
theorem witness_PackerBaseline : legalBinding 0#3 5#3 = true ∧ legalBinding 5#3 4#3 = true := by decide
theorem witness_ReadPortNumbers : 8 ≤ 8 := by decide

end Sys2Proof.Tests
end

section
/-!
SUPPORT. What an instruction does, said once: a list of elementary updates of the state, fixed by what the instruction
reads. The claims about every instruction follow from it by one case split over the elementary updates.
-/

namespace Sys2Proof.Machine

/-! ## The elementary updates -/

/-- How many result registers an instruction may write (R22). -/
inductive ResultUse where
  /-- None. -/
  | keeps
  /-- `R[0]`. -/
  | low
  /-- `R[0]` and `R[1]`. -/
  | pair
  /-- All four. -/
  | all

/-- R22: the value and read commands, by the result registers their rules name. -/
def resultUse : Instr → ResultUse
  | .getvFnv32 _ | .getvFnv64 _ | .getvFnvj32 _ | .getvFnvj64 _ | .getvM3a _ | .getvM3f _ | .getvCmb _ | .getvhM3f _
  | .rd32Bor _ _ | .rd64Bor _ _ => .low
  | .get128M3f _ | .getbeM3f _ | .getleM3f _ => .pair
  | .gethexM3f _ => .all
  | _ => .keeps

/-- The updates of the state that instructions are made of. -/
inductive Update where
  /-- Fault entry. -/
  | fault (code : FaultCode) (p : Packet)
  /-- `SEED_k <- A[w-1:0]`. -/
  | seed (k : HashUnit) (op : Operands)
  /-- `Reset_k()`. -/
  | construct (k : HashUnit)
  /-- `Byte_k(b)`. -/
  | byte (k : HashUnit) (b : Byte)
  /-- `FINV <- 0`. -/
  | dropCache
  /-- The effect of `Finish_5` on unit 5. -/
  | fillCache
  /-- The effect of a legal `BIND`. -/
  | bind (k1 k2 : HashUnit)
  /-- `R[0] <- v`. -/
  | writeLow (v : Word64)
  /-- `R[0] <- v; R[1] <- w`. -/
  | writePair (v w : Word64)
  /-- `R[0]` to `R[3]` from a byte string. -/
  | writeAll (str : List Byte)

/-- The state after an elementary update. -/
def Update.run : Update → State → State
  | .fault code p, s => faultEntry code p s
  | .seed k op, s => seedUnit k op s
  | .construct k, s => resetUnit k s
  | .byte k b, s => byteUnit k b s
  | .dropCache, s => s.setU5 { s.u5 with finv := false }
  | .fillCache, s => s.setU5 (m3fFinish s.u5).2
  | .bind k1 k2, s => s.setU6 ⟨true, k1, k2⟩
  | .writeLow v, s => s.writeR0 v
  | .writePair v w, s => s.writeR01 v w
  | .writeAll str, s => s.writeString4 str

/-- The updates an instruction may be made of: seeds are for `INIT` of the unit, a binding of two different units for
`BIND`, result registers for the value and read commands. -/
def Update.allowed (i : Instr) : Update → Prop
  | .seed k op => i = initOf k op
  | .bind k1 k2 => k1 ≠ k2 ∧ ∃ sel1 sel2 op, i = .bindCmb sel1 sel2 op
  | .writeLow _ => resultUse i = .low
  | .writePair _ _ => resultUse i = .pair
  | .writeAll _ => resultUse i = .all
  | _ => True

section Allowed

variable (i : Instr) (k : HashUnit)

@[simp] theorem allowed_fault (code : FaultCode) (p : Packet) : (Update.fault code p).allowed i := trivial
@[simp] theorem allowed_seed (op : Operands) : (Update.seed k op).allowed (initOf k op) := rfl
@[simp] theorem allowed_construct : (Update.construct k).allowed i := trivial
@[simp] theorem allowed_byte (b : Byte) : (Update.byte k b).allowed i := trivial
@[simp] theorem allowed_dropCache : Update.dropCache.allowed i := trivial
@[simp] theorem allowed_fillCache : Update.fillCache.allowed i := trivial
@[simp] theorem allowed_writeLow (v : Word64) : (Update.writeLow v).allowed i ↔ resultUse i = .low := .rfl

end Allowed

/-- The state after a list of elementary updates. -/
def runUpdates (us : List Update) (s : State) : State := us.foldl (fun s u => u.run s) s

@[simp] theorem runUpdates_nil (s : State) : runUpdates [] s = s := rfl

@[simp] theorem runUpdates_cons (u : Update) (us : List Update) (s : State) :
    runUpdates (u :: us) s = runUpdates us (u.run s) := rfl

theorem runUpdates_append (us vs : List Update) (s : State) :
    runUpdates (us ++ vs) s = runUpdates vs (runUpdates us s) := List.foldl_append

/-- A property that each of the updates keeps is kept by all of them. -/
theorem runUpdates_keeps {P : State → Prop} {us : List Update} (h : ∀ u ∈ us, ∀ s, P s → P (u.run s)) {s : State}
    (hs : P s) : P (runUpdates us s) := by
  induction us generalizing s with
  | nil => exact hs
  | cons u us ih => exact ih (fun v hv => h v (.tail _ hv)) (h u (.head _) s hs)

/-! ## What an instruction reads -/

/-- Two states agree on all that an instruction reads: everything but the result registers, the pending events, and
how the finalised lanes of unit 5 come to be known. -/
structure SameReads (s t : State) : Prop where
  flt : t.flt = s.flt
  u0 : t.u0 = s.u0
  u1 : t.u1 = s.u1
  u2 : t.u2 = s.u2
  u3 : t.u3 = s.u3
  u4 : t.u4 = s.u4
  u6 : t.u6 = s.u6
  mem : t.mem = s.mem
  lanes : (m3fFinish t.u5).1 = (m3fFinish s.u5).1

theorem SameReads.refl (s : State) : SameReads s s := ⟨rfl, rfl, rfl, rfl, rfl, rfl, rfl, rfl, rfl⟩

theorem SameReads.faulted {s t : State} (h : SameReads s t) : t.faulted = s.faulted := by
  rw [State.faulted, h.flt, State.faulted]

/-- `Value_k` is a function of what `SameReads` speaks of. -/
theorem SameReads.value {s t : State} (h : SameReads s t) (k : HashUnit) : (valueUnit k t).1 = (valueUnit k s).1 := by
  cases k
  · exact congrArg fnv32Value h.u0
  · exact congrArg fnv64Value h.u1
  · exact congrArg fnvj32Value h.u2
  · exact congrArg fnvj64Value h.u3
  · exact congrArg m3aValue h.u4
  · exact congrArg (fun lanes : Word64 × Word64 => lanes.1) h.lanes

/-- `Finish_5` gives the same lanes again. -/
theorem m3fFinish_fst_again (u : M3fRegs) : (m3fFinish (m3fFinish u).2).1 = (m3fFinish u).1 := by
  cases hv : u.finv
  · rw [m3fFinish_of_invalid hv, m3fFinish_of_valid rfl]
  · rw [m3fFinish_of_valid hv, m3fFinish_of_valid hv]

/-- Computing a value leaves all that an instruction reads. -/
theorem sameReads_valueUnit (k : HashUnit) (s : State) : SameReads s (valueUnit k s).2 := by
  refine ⟨by simp, by simp, by simp, by simp, by simp, by simp, by simp, by simp, ?_⟩
  cases k
  case m3f => exact m3fFinish_fst_again s.u5
  all_goals rfl

/-! ## The procedures of the units as updates -/

/-- The updates of `Value_k`. -/
def valueUpdates : HashUnit → List Update
  | .m3f => [.fillCache]
  | _ => []

theorem runUpdates_valueUpdates (k : HashUnit) (s : State) : runUpdates (valueUpdates k) s = (valueUnit k s).2 := by
  cases k <;> rfl

/-- The updates of `Bytes_k`, with the `FINV <- 0` that ends it on unit 5. -/
def bytesUpdates (k : HashUnit) (bs : List Byte) : List Update :=
  bs.map (.byte k) ++ match k with
    | .m3f => [.dropCache]
    | _ => []

theorem bytesUpdates_cons (k : HashUnit) (b : Byte) (bs : List Byte) :
    bytesUpdates k (b :: bs) = .byte k b :: bytesUpdates k bs := rfl

/-- The byte walk of every unit, one byte at a time. -/
theorem bytesUnit_cons_all (k : HashUnit) (b : Byte) (bs : List Byte) (s : State) :
    bytesUnit k (b :: bs) s = bytesUnit k bs (byteUnit k b s) := by
  by_cases hk : k = .m3f
  · subst hk
    simp -implicitDefEqProofs only [bytesUnit, byteUnit, m3fBytes_cons, State.setU5_u5, State.setU5_setU5]
  · exact bytesUnit_cons k b bs s hk

theorem runUpdates_bytesUpdates (k : HashUnit) (bs : List Byte) (s : State) :
    runUpdates (bytesUpdates k bs) s = bytesUnit k bs s := by
  induction bs generalizing s with
  | nil => cases k <;> rfl
  | cons b bs ih => rw [bytesUpdates_cons, runUpdates_cons, ih, bytesUnit_cons_all]; rfl

/-- Feeding bytes to unit 4 is its byte walk. -/
theorem setU4_m3aBytes (bs : List Byte) (s : State) : s.setU4 (m3aBytes bs s.u4) = bytesUnit .m3a bs s := rfl

/-- An array update of unit 4 feeds bytes that depend on the buffer, the count and the address only. -/
def FeedsBytes (feed : Memory → Nat → Nat → M3aRegs → M3aRegs) : Prop :=
  ∀ m n a, ∃ bs : List Byte, ∀ u, feed m n a u = m3aBytes bs u

theorem m3aArray16_feedsBytes : FeedsBytes m3aArray16 := by
  intro m n
  induction n with
  | zero => exact fun a => ⟨[], fun _ => rfl⟩
  | succ n ih =>
    intro a
    obtain ⟨bs, hbs⟩ := ih (a + 2)
    exact ⟨bytesLE 2 (rd16LE m a) ++ bs, fun u => by rw [m3aArray16, hbs, m3aBytes_append]⟩

theorem m3aArray32_feedsBytes : FeedsBytes m3aArray32 := by
  intro m n
  induction n with
  | zero => exact fun a => ⟨[], fun _ => rfl⟩
  | succ n ih =>
    intro a
    obtain ⟨bs, hbs⟩ := ih (a + 4)
    exact ⟨bytesLE 4 (rd32LE m a) ++ bs, fun u => by rw [m3aArray32, hbs, m3aBytes_append]⟩

theorem m3aArray64_feedsBytes : FeedsBytes m3aArray64 := by
  intro m n
  induction n with
  | zero => exact fun a => ⟨[], fun _ => rfl⟩
  | succ n ih =>
    intro a
    obtain ⟨bs, hbs⟩ := ih (a + 8)
    exact ⟨bytesLE 8 (rd64LE m a) ++ bs, fun u => by rw [m3aArray64, hbs, m3aBytes_append]⟩

/-! ## Effects made of updates -/

/-- From every state that reads like `s`, the effect is one list of updates allowed to `i`. -/
def MadeOfUpdates (i : Instr) (s : State) (f : State → State) : Prop :=
  ∃ us : List Update, (∀ u ∈ us, u.allowed i) ∧ ∀ t, SameReads s t → f t = runUpdates us t

/-- The same of an effect that answers an outcome: from all these states it is the next state after the updates. -/
def CompletesByUpdates (i : Instr) (s : State) (f : State → Result) : Prop :=
  ∃ us : List Update, (∀ u ∈ us, u.allowed i) ∧ ∀ t, SameReads s t → f t = .next (runUpdates us t)

section Effects

variable {i : Instr} {s : State}

theorem MadeOfUpdates.next {f : State → State} (h : MadeOfUpdates i s f) :
    CompletesByUpdates i s fun t => .next (f t) := by
  obtain ⟨us, hus, hf⟩ := h
  exact ⟨us, hus, fun t ht => congrArg _ (hf t ht)⟩

theorem completes_keep : CompletesByUpdates i s fun t => .next t := ⟨[], by simp, fun _ _ => rfl⟩

theorem completes_raiseFault (code : FaultCode) (p : Packet) : CompletesByUpdates i s (raiseFault code p) :=
  ⟨[.fault code p], by simp, fun _ _ => rfl⟩

/-- An effect that agrees with another one on every state that reads like `s`. -/
theorem CompletesByUpdates.congr {f g : State → Result} (h : CompletesByUpdates i s g)
    (hfg : ∀ t, SameReads s t → f t = g t) : CompletesByUpdates i s f := by
  obtain ⟨us, hus, hg⟩ := h
  exact ⟨us, hus, fun t ht => (hfg t ht).trans (hg t ht)⟩

theorem CompletesByUpdates.whenLive {f : State → Result} (h : CompletesByUpdates i s f) :
    CompletesByUpdates i s fun t => whenLive t f := by
  cases hs : s.faulted
  · exact h.congr fun t ht => whenLive_of_live (ht.faulted.trans hs) f
  · exact completes_keep.congr fun t ht => whenLive_of_faulted (ht.faulted.trans hs) f

theorem MadeOfUpdates.checkBounds {f : State → State} (h : MadeOfUpdates i s f) (p : Packet) (a n : Nat) :
    CompletesByUpdates i s fun t => checkBounds p a n t f := by
  rcases Nat.lt_or_ge s.mem.size (a + n) with hlt | hle
  · exact (completes_raiseFault .bounds p).congr fun t ht => checkBounds_of_outOfBounds (by rwa [ht.mem]) p f
  · exact h.next.congr fun t ht => checkBounds_of_inBounds (by rwa [ht.mem]) p f

theorem CompletesByUpdates.checkBound {f : State → Result} (h : CompletesByUpdates i s f) (p : Packet) :
    CompletesByUpdates i s fun t => checkBound p t f := by
  cases hb : s.u6.bound
  · exact (completes_raiseFault .unbound p).congr fun t ht => checkBound_of_unbound (by rw [ht.u6, hb]) p f
  · exact h.congr fun t ht => checkBound_of_bound (by rw [ht.u6, hb]) p f

/-! ## The shells -/

theorem allowed_of_mem_bytesUpdates (k : HashUnit) (bs : List Byte) : ∀ u ∈ bytesUpdates k bs, u.allowed i := by
  intro u hu
  rcases List.mem_append.1 hu with hu | hu
  · obtain ⟨b, -, rfl⟩ := List.mem_map.1 hu
    exact allowed_byte i k b
  · cases k <;> simp_all

theorem allowed_of_mem_valueUpdates (k : HashUnit) : ∀ u ∈ valueUpdates k, u.allowed i := by
  cases k <;> simp [valueUpdates]

theorem madeOf_bytesUnit (k : HashUnit) (bs : List Byte) : MadeOfUpdates i s (bytesUnit k bs) :=
  ⟨bytesUpdates k bs, allowed_of_mem_bytesUpdates k bs, fun t _ => (runUpdates_bytesUpdates k bs t).symm⟩

theorem shellInit_completes (k : HashUnit) (op : Operands) : CompletesByUpdates (initOf k op) s (shellInit k op) :=
  (MadeOfUpdates.next ⟨[.seed k op, .construct k], by simp, fun _ _ => rfl⟩).whenLive

theorem shellReset_completes (k : HashUnit) : CompletesByUpdates i s (shellReset k) :=
  (MadeOfUpdates.next ⟨[.construct k], by simp, fun _ _ => rfl⟩).whenLive

theorem shellUpdb_completes (k : HashUnit) (b : Byte) : CompletesByUpdates i s (shellUpdb k b) :=
  (MadeOfUpdates.next ⟨[.byte k b], by simp, fun _ _ => rfl⟩).whenLive

theorem shellUpdr_completes (k : HashUnit) (p : Packet) : CompletesByUpdates i s (shellUpdr k p) := by
  refine (MadeOfUpdates.checkBounds ?_ p _ _).whenLive
  obtain ⟨us, hus, h⟩ := madeOf_bytesUnit (i := i) (s := s) k (memRead s.mem (addrOf p.ops) (countOf p.ops))
  exact ⟨us, hus, fun t ht => by beta_reduce; rw [ht.mem, h t ht]⟩

theorem shellGetv_completes (k : HashUnit) (hi : resultUse i = .low) : CompletesByUpdates i s (shellGetv k) := by
  refine (MadeOfUpdates.next ⟨valueUpdates k ++ [.writeLow (valueUnit k s).1], ?_, fun t ht => ?_⟩).whenLive
  · exact List.forall_mem_append.2 ⟨allowed_of_mem_valueUpdates k, by simp [hi]⟩
  · rw [ht.value, runUpdates_append, runUpdates_valueUpdates]
    rfl

/-- A value command of unit 5, whose write of result registers is one update allowed to it. -/
theorem shellFinish_completes {write : Word64 → Word64 → State → State} (u : Word64 → Word64 → Update)
    (hu : ∀ lo hi, (u lo hi).allowed i) (hwrite : ∀ lo hi t, write lo hi t = (u lo hi).run t) :
    CompletesByUpdates i s (shellFinish write) := by
  refine (MadeOfUpdates.next ⟨[.fillCache, u (m3fFinish s.u5).1.1 (m3fFinish s.u5).1.2], ?_, fun t ht => ?_⟩).whenLive
  · simp [hu]
  · rw [hwrite, ht.lanes]
    rfl

theorem shellArray_completes {feed : Memory → Nat → Nat → M3aRegs → M3aRegs} (hfeed : FeedsBytes feed) (width : Nat)
    (null : Bool) (p : Packet) : CompletesByUpdates i s (shellArray width feed null p) := by
  apply CompletesByUpdates.whenLive
  cases null
  · refine MadeOfUpdates.checkBounds ?_ p _ _
    obtain ⟨bs, hbs⟩ := hfeed s.mem (countOf p.ops) (addrOf p.ops)
    obtain ⟨us, hus, h⟩ := madeOf_bytesUnit (i := i) (s := s) .m3a bs
    exact ⟨us, hus, fun t ht => by beta_reduce; rw [ht.mem, hbs, setU4_m3aBytes, h t ht]⟩
  · exact completes_keep

end Effects

/-! ## The instructions without a shell of their own -/

section Instructions

variable {s : State}

theorem execResetCmb_completes (op : Operands) : CompletesByUpdates (.resetCmb op) s (execResetCmb op) := by
  refine (CompletesByUpdates.checkBound (MadeOfUpdates.next ?_) _).whenLive
  exact ⟨[.construct s.u6.sel1, .construct s.u6.sel2], by simp, fun t ht => by beta_reduce; rw [ht.u6]; rfl⟩

theorem execUpdbCmb_completes (b : Byte) (op : Operands) :
    CompletesByUpdates (.updbCmb b op) s (execUpdbCmb b op) := by
  refine (CompletesByUpdates.checkBound (MadeOfUpdates.next ?_) _).whenLive
  exact ⟨[.byte s.u6.sel1 b, .byte s.u6.sel2 b], by simp, fun t ht => by beta_reduce; rw [ht.u6]; rfl⟩

theorem execUpdrCmb_completes (op : Operands) : CompletesByUpdates (.updrCmb op) s (execUpdrCmb op) := by
  refine (CompletesByUpdates.checkBound (MadeOfUpdates.checkBounds ?_ _ _ _) _).whenLive
  refine ⟨bytesUpdates s.u6.sel1 (memRead s.mem (addrOf op) (countOf op))
    ++ bytesUpdates s.u6.sel2 (memRead s.mem (addrOf op) (countOf op)),
    List.forall_mem_append.2 ⟨allowed_of_mem_bytesUpdates _ _, allowed_of_mem_bytesUpdates _ _⟩, fun t ht => ?_⟩
  beta_reduce
  rw [ht.u6, ht.mem, runUpdates_append, runUpdates_bytesUpdates, runUpdates_bytesUpdates]

theorem execGetvCmb_completes (op : Operands) : CompletesByUpdates (.getvCmb op) s (execGetvCmb op) := by
  refine (CompletesByUpdates.checkBound (MadeOfUpdates.next ?_) _).whenLive
  refine ⟨valueUpdates s.u6.sel1 ++ (valueUpdates s.u6.sel2
    ++ [.writeLow (packValues (valueUnit s.u6.sel1 s).1 (valueUnit s.u6.sel2 s).1)]), ?_, fun t ht => ?_⟩
  · exact List.forall_mem_append.2 ⟨allowed_of_mem_valueUpdates _, List.forall_mem_append.2
      ⟨allowed_of_mem_valueUpdates _, by simp [resultUse]⟩⟩
  · beta_reduce
    rw [ht.u6, (sameReads_valueUnit s.u6.sel1 t).value, ht.value, ht.value, runUpdates_append, runUpdates_append,
      runUpdates_valueUpdates, runUpdates_valueUpdates]
    rfl

theorem execBindCmb_completes (sel1 sel2 : BitVec 3) (op : Operands) :
    CompletesByUpdates (.bindCmb sel1 sel2 op) s (execBindCmb sel1 sel2 op) := by
  apply CompletesByUpdates.whenLive
  cases h1 : hashUnitOf sel1 with
  | none => exact completes_raiseFault _ _
  | some k1 =>
    cases h2 : hashUnitOf sel2 with
    | none => exact completes_raiseFault _ _
    | some k2 =>
      by_cases hk : k1 = k2
      · simpa only [hk, if_true] using completes_raiseFault _ _
      · simp only [hk, if_false]
        exact MadeOfUpdates.next ⟨[.bind k1 k2], by simp [Update.allowed, hk], fun _ _ => rfl⟩

theorem execUpd16M3a_completes (op : Operands) : CompletesByUpdates (.upd16M3a op) s (execUpd16M3a op) :=
  (madeOf_bytesUnit .m3a _).next.whenLive

theorem execUpd32M3a_completes (op : Operands) : CompletesByUpdates (.upd32M3a op) s (execUpd32M3a op) :=
  (madeOf_bytesUnit .m3a _).next.whenLive

theorem execUpd64M3a_completes (op : Operands) : CompletesByUpdates (.upd64M3a op) s (execUpd64M3a op) :=
  (madeOf_bytesUnit .m3a _).next.whenLive

theorem execGetvhM3f_completes (op : Operands) : CompletesByUpdates (.getvhM3f op) s (execGetvhM3f op) :=
  shellFinish_completes (fun _ hi => .writeLow hi) (fun _ _ => rfl) fun _ _ _ => rfl

theorem execGet128M3f_completes (op : Operands) : CompletesByUpdates (.get128M3f op) s (execGet128M3f op) :=
  shellFinish_completes .writePair (fun _ _ => rfl) fun _ _ _ => rfl

theorem execGetbeM3f_completes (op : Operands) : CompletesByUpdates (.getbeM3f op) s (execGetbeM3f op) :=
  shellFinish_completes (fun lo hi => .writePair (packedWord (stringBE lo hi) 0) (packedWord (stringBE lo hi) 1))
    (fun _ _ => rfl) fun _ _ _ => rfl

theorem execGetleM3f_completes (op : Operands) : CompletesByUpdates (.getleM3f op) s (execGetleM3f op) :=
  shellFinish_completes (fun lo hi => .writePair (packedWord (stringLE lo hi) 0) (packedWord (stringLE lo hi) 1))
    (fun _ _ => rfl) fun _ _ _ => rfl

theorem execGethexM3f_completes (op : Operands) : CompletesByUpdates (.gethexM3f op) s (execGethexM3f op) :=
  shellFinish_completes (fun lo hi => .writeAll (hexString lo hi)) (fun _ _ => rfl) fun _ _ _ => rfl

theorem execUpd64M3f_completes (bigEndian : Bool) (op : Operands) :
    CompletesByUpdates (.upd64M3f bigEndian op) s (execUpd64M3f bigEndian op) :=
  (madeOf_bytesUnit .m3f _).next.whenLive

theorem execRd32Bor_completes (bigEndian : Bool) (op : Operands) :
    CompletesByUpdates (.rd32Bor bigEndian op) s (execRd32Bor bigEndian op) :=
  (MadeOfUpdates.checkBounds ⟨[.writeLow
    ((if bigEndian then rd32BE s.mem (addrOf op) else rd32LE s.mem (addrOf op)).setWidth 64)],
    by simp [resultUse], fun t ht => by rw [ht.mem]; rfl⟩ _ _ _).whenLive

theorem execRd64Bor_completes (bigEndian : Bool) (op : Operands) :
    CompletesByUpdates (.rd64Bor bigEndian op) s (execRd64Bor bigEndian op) :=
  (MadeOfUpdates.checkBounds ⟨[.writeLow (if bigEndian then rd64BE s.mem (addrOf op) else rd64LE s.mem (addrOf op))],
    by simp [resultUse], fun t ht => by rw [ht.mem]; rfl⟩ _ _ _).whenLive

/-! ## Every instruction -/

/-- R121: every instruction completes, and what it does is a list of updates allowed to it, the same list from all
states that agree on what instructions read. -/
theorem exec_completes (i : Instr) (s : State) : CompletesByUpdates i s (exec i) := by
  cases i with
  | initFnv32 op => exact shellInit_completes .fnv32 op
  | resetFnv32 op => exact shellReset_completes .fnv32
  | updbFnv32 b op => exact shellUpdb_completes .fnv32 b
  | updrFnv32 op => exact shellUpdr_completes .fnv32 _
  | getvFnv32 op => exact shellGetv_completes .fnv32 rfl
  | initFnv64 op => exact shellInit_completes .fnv64 op
  | resetFnv64 op => exact shellReset_completes .fnv64
  | updbFnv64 b op => exact shellUpdb_completes .fnv64 b
  | updrFnv64 op => exact shellUpdr_completes .fnv64 _
  | getvFnv64 op => exact shellGetv_completes .fnv64 rfl
  | initFnvj32 op => exact shellInit_completes .fnvj32 op
  | resetFnvj32 op => exact shellReset_completes .fnvj32
  | updbFnvj32 b op => exact shellUpdb_completes .fnvj32 b
  | updrFnvj32 op => exact shellUpdr_completes .fnvj32 _
  | getvFnvj32 op => exact shellGetv_completes .fnvj32 rfl
  | initFnvj64 op => exact shellInit_completes .fnvj64 op
  | resetFnvj64 op => exact shellReset_completes .fnvj64
  | updbFnvj64 b op => exact shellUpdb_completes .fnvj64 b
  | updrFnvj64 op => exact shellUpdr_completes .fnvj64 _
  | getvFnvj64 op => exact shellGetv_completes .fnvj64 rfl
  | initM3a op => exact shellInit_completes .m3a op
  | resetM3a op => exact shellReset_completes .m3a
  | updbM3a b op => exact shellUpdb_completes .m3a b
  | updrM3a op => exact shellUpdr_completes .m3a _
  | getvM3a op => exact shellGetv_completes .m3a rfl
  | upd16M3a op => exact execUpd16M3a_completes op
  | upd32M3a op => exact execUpd32M3a_completes op
  | upd64M3a op => exact execUpd64M3a_completes op
  | upda16M3a null op => exact shellArray_completes m3aArray16_feedsBytes 2 null _
  | upda32M3a null op => exact shellArray_completes m3aArray32_feedsBytes 4 null _
  | upda64M3a null op => exact shellArray_completes m3aArray64_feedsBytes 8 null _
  | initM3f op => exact shellInit_completes .m3f op
  | resetM3f op => exact shellReset_completes .m3f
  | updbM3f b op => exact shellUpdb_completes .m3f b
  | updrM3f op => exact shellUpdr_completes .m3f _
  | getvM3f op => exact shellGetv_completes .m3f rfl
  | getvhM3f op => exact execGetvhM3f_completes op
  | get128M3f op => exact execGet128M3f_completes op
  | getbeM3f op => exact execGetbeM3f_completes op
  | getleM3f op => exact execGetleM3f_completes op
  | gethexM3f op => exact execGethexM3f_completes op
  | upd64M3f e op => exact execUpd64M3f_completes e op
  | resetCmb op => exact execResetCmb_completes op
  | updbCmb b op => exact execUpdbCmb_completes b op
  | updrCmb op => exact execUpdrCmb_completes op
  | getvCmb op => exact execGetvCmb_completes op
  | bindCmb sel1 sel2 op => exact execBindCmb_completes sel1 sel2 op
  | rd32Bor e op => exact execRd32Bor_completes e op
  | rd64Bor e op => exact execRd64Bor_completes e op

end Instructions

/-- A property that every update allowed to an instruction keeps is kept by the instruction. -/
theorem exec_keeps {P : State → Prop} {i : Instr} (hP : ∀ u : Update, u.allowed i → ∀ s, P s → P (u.run s))
    {s t : State} (h : exec i s = .next t) (hs : P s) : P t := by
  obtain ⟨us, hus, hrun⟩ := exec_completes i s
  rw [hrun s (.refl s)] at h
  injection h with h
  exact h ▸ runUpdates_keeps (fun u hu => hP u (hus u hu)) hs

end Sys2Proof.Machine
end

section
/-!
SUPPORT. The parts of the state under an elementary update, and the claims about every instruction that follow: the
result registers, the seeds, the binding, the hidden cache.
-/

namespace Sys2Proof.Machine

/-! ## The result registers (R22) -/

/-- What an elementary update does to the result registers. -/
def Update.onRes : Update → ResultRegs → ResultRegs
  | .writeLow v, x => { x with r0 := v }
  | .writePair v w, x => { x with r0 := v, r1 := w }
  | .writeAll str, _ => ⟨packedWord str 0, packedWord str 1, packedWord str 2, packedWord str 3⟩
  | _, x => x

theorem Update.run_res (u : Update) (s : State) : (u.run s).res = u.onRes s.res := by
  cases u <;> simp [Update.run, Update.onRes]

theorem faultEntry_setRes (c : FaultCode) (p : Packet) (s : State) (x : ResultRegs) :
    faultEntry c p (s.setRes x) = (faultEntry c p s).setRes x := rfl

theorem seedUnit_setRes (k : HashUnit) (op : Operands) (s : State) (x : ResultRegs) :
    seedUnit k op (s.setRes x) = (seedUnit k op s).setRes x := by cases k <;> rfl

theorem resetUnit_setRes (k : HashUnit) (s : State) (x : ResultRegs) :
    resetUnit k (s.setRes x) = (resetUnit k s).setRes x := by cases k <;> rfl

theorem byteUnit_setRes (k : HashUnit) (b : Byte) (s : State) (x : ResultRegs) :
    byteUnit k b (s.setRes x) = (byteUnit k b s).setRes x := by
  cases k
  · rw [byteUnit, byteUnit, State.setRes_u0]; rfl
  · rw [byteUnit, byteUnit, State.setRes_u1]; rfl
  · rw [byteUnit, byteUnit, State.setRes_u2]; rfl
  · rw [byteUnit, byteUnit, State.setRes_u3]; rfl
  · rw [byteUnit, byteUnit, State.setRes_u4]; rfl
  · rw [byteUnit, byteUnit, State.setRes_u5]; rfl

/-- No update reads a result register. -/
theorem Update.run_setRes (u : Update) (s : State) (x : ResultRegs) :
    u.run (s.setRes x) = (u.run s).setRes (u.onRes x) := by
  cases u with
  | fault code p => exact faultEntry_setRes code p s x
  | seed k op => exact seedUnit_setRes k op s x
  | construct k => exact resetUnit_setRes k s x
  | byte k b => exact byteUnit_setRes k b s x
  | dropCache => rfl
  | fillCache => rfl
  | bind k1 k2 => rfl
  | writeLow v => rfl
  | writePair v w => rfl
  | writeAll str => rfl

/-- What a list of updates does to the result registers. -/
def resAfter (us : List Update) (x : ResultRegs) : ResultRegs := us.foldl (fun x u => u.onRes x) x

theorem runUpdates_res (us : List Update) (s : State) : (runUpdates us s).res = resAfter us s.res := by
  induction us generalizing s with
  | nil => rfl
  | cons u us ih => exact (ih (u.run s)).trans (congrArg (resAfter us) (u.run_res s))

theorem runUpdates_setRes (us : List Update) (s : State) (x : ResultRegs) :
    runUpdates us (s.setRes x) = (runUpdates us s).setRes (resAfter us x) := by
  induction us generalizing s x with
  | nil => rfl
  | cons u us ih => rw [runUpdates_cons, u.run_setRes, ih]; rfl

/-- From `x0` and `y0` on, each register was written the same value in `x` and `y`, or left alone in both. -/
def WrittenAlike (x0 y0 x y : ResultRegs) : Prop :=
  (y.r0 = x.r0 ∨ (x.r0 = x0.r0 ∧ y.r0 = y0.r0)) ∧ (y.r1 = x.r1 ∨ (x.r1 = x0.r1 ∧ y.r1 = y0.r1))
  ∧ (y.r2 = x.r2 ∨ (x.r2 = x0.r2 ∧ y.r2 = y0.r2)) ∧ (y.r3 = x.r3 ∨ (x.r3 = x0.r3 ∧ y.r3 = y0.r3))

theorem Update.onRes_writtenAlike (u : Update) {x0 y0 x y : ResultRegs} (h : WrittenAlike x0 y0 x y) :
    WrittenAlike x0 y0 (u.onRes x) (u.onRes y) := by
  obtain ⟨h0, h1, h2, h3⟩ := h
  cases u with
  | writeLow v => exact ⟨.inl rfl, h1, h2, h3⟩
  | writePair v w => exact ⟨.inl rfl, .inl rfl, h2, h3⟩
  | writeAll str => exact ⟨.inl rfl, .inl rfl, .inl rfl, .inl rfl⟩
  | _ => exact ⟨h0, h1, h2, h3⟩

theorem resAfter_writtenAlike (us : List Update) {x0 y0 x y : ResultRegs} (h : WrittenAlike x0 y0 x y) :
    WrittenAlike x0 y0 (resAfter us x) (resAfter us y) := by
  induction us generalizing x y with
  | nil => exact h
  | cons u us ih => exact ih (u.onRes_writtenAlike h)

theorem sameReads_setRes (s : State) (x : ResultRegs) : SameReads s (s.setRes x) :=
  ⟨rfl, rfl, rfl, rfl, rfl, rfl, rfl, rfl, rfl⟩

/-- Settles O20: an instruction is the same list of updates in both states, and no update reads a result register. -/
theorem noCommandReadsResultRegisters : Obligations.NoCommandReadsResultRegisters := by
  intro i s x
  obtain ⟨us, -, hrun⟩ := exec_completes i s
  refine ⟨runUpdates us s, runUpdates us (s.setRes x), hrun s (.refl s), hrun _ (sameReads_setRes s x), ?_⟩
  have halike : WrittenAlike s.res x (resAfter us s.res) (resAfter us x) :=
    resAfter_writtenAlike us ⟨.inr ⟨rfl, rfl⟩, .inr ⟨rfl, rfl⟩, .inr ⟨rfl, rfl⟩, .inr ⟨rfl, rfl⟩⟩
  rw [runUpdates_setRes, State.setRes_res, ← runUpdates_res] at *
  exact ⟨rfl, halike⟩

/-- The result registers that a use of them keeps. -/
def ResKept : ResultUse → ResultRegs → ResultRegs → Prop
  | .keeps, x, y => y = x
  | .low, x, y => y.r1 = x.r1 ∧ y.r2 = x.r2 ∧ y.r3 = x.r3
  | .pair, x, y => y.r2 = x.r2 ∧ y.r3 = x.r3
  | .all, _, _ => True

theorem ResKept.refl (use : ResultUse) (x : ResultRegs) : ResKept use x x := by
  cases use <;> simp [ResKept]

theorem Update.onRes_kept {i : Instr} {u : Update} (hu : u.allowed i) {x y : ResultRegs}
    (h : ResKept (resultUse i) x y) : ResKept (resultUse i) x (u.onRes y) := by
  cases u with
  | writeLow v =>
    rw [show resultUse i = .low from hu] at *
    exact h
  | writePair v w =>
    rw [show resultUse i = .pair from hu] at *
    exact h
  | writeAll str =>
    rw [show resultUse i = .all from hu]
    trivial
  | _ => exact h

/-- An instruction keeps the result registers that its rule does not name. -/
theorem exec_resKept {i : Instr} {s t : State} (h : exec i s = .next t) : ResKept (resultUse i) s.res t.res :=
  exec_keeps (P := fun t => ResKept (resultUse i) s.res t.res)
    (fun u hu t ht => by rw [u.run_res]; exact Update.onRes_kept hu ht) h (.refl _ _)

/-- Settles O19, from the result registers each update writes. -/
theorem resultRegistersWrittenByValueCommandsOnly : Obligations.ResultRegistersWrittenByValueCommandsOnly := by
  intro i s t h
  cases i <;> exact exec_resKept h

/-! ## The seeds (R35) -/

section Seeds

variable (j k : HashUnit) (s : State)

/-! An update of a unit that keeps the unit's seed keeps every seed. -/

theorem seedOf_setU0 {x : Fnv32Regs} (hx : x.seed = s.u0.seed) : seedOf j (s.setU0 x) = seedOf j s := by
  cases j <;> simp [seedOf, hx]
theorem seedOf_setU1 {x : Fnv64Regs} (hx : x.seed = s.u1.seed) : seedOf j (s.setU1 x) = seedOf j s := by
  cases j <;> simp [seedOf, hx]
theorem seedOf_setU2 {x : Fnvj32Regs} (hx : x.seed = s.u2.seed) : seedOf j (s.setU2 x) = seedOf j s := by
  cases j <;> simp [seedOf, hx]
theorem seedOf_setU3 {x : Fnvj64Regs} (hx : x.seed = s.u3.seed) : seedOf j (s.setU3 x) = seedOf j s := by
  cases j <;> simp [seedOf, hx]
theorem seedOf_setU4 {x : M3aRegs} (hx : x.seed = s.u4.seed) : seedOf j (s.setU4 x) = seedOf j s := by
  cases j <;> simp [seedOf, hx]
theorem seedOf_setU5 {x : M3fRegs} (hx : x.seed = s.u5.seed) : seedOf j (s.setU5 x) = seedOf j s := by
  cases j <;> simp [seedOf, hx]

theorem seedOf_seedUnit_of_ne (op : Operands) (h : j ≠ k) : seedOf j (seedUnit k op s) = seedOf j s := by
  cases j with
  | fnv32 => cases k with
    | fnv32 => exact absurd rfl h
    | _ => rfl
  | fnv64 => cases k with
    | fnv64 => exact absurd rfl h
    | _ => rfl
  | fnvj32 => cases k with
    | fnvj32 => exact absurd rfl h
    | _ => rfl
  | fnvj64 => cases k with
    | fnvj64 => exact absurd rfl h
    | _ => rfl
  | m3a => cases k with
    | m3a => exact absurd rfl h
    | _ => rfl
  | m3f => cases k with
    | m3f => exact absurd rfl h
    | _ => rfl

theorem seedOf_resetUnit : seedOf j (resetUnit k s) = seedOf j s := by
  cases k
  · exact seedOf_setU0 j s (fnv32Reset_seed s.u0)
  · exact seedOf_setU1 j s (fnv64Reset_seed s.u1)
  · exact seedOf_setU2 j s (fnvj32Reset_seed s.u2)
  · exact seedOf_setU3 j s (fnvj64Reset_seed s.u3)
  · exact seedOf_setU4 j s (m3aReset_seed s.u4)
  · exact seedOf_setU5 j s (m3fReset_seed s.u5)

theorem seedOf_byteUnit (b : Byte) : seedOf j (byteUnit k b s) = seedOf j s := by
  cases k
  · exact seedOf_setU0 j s (fnv32Byte_seed b s.u0)
  · exact seedOf_setU1 j s (fnv64Byte_seed b s.u1)
  · exact seedOf_setU2 j s (fnvj32Byte_seed b s.u2)
  · exact seedOf_setU3 j s (fnvj64Byte_seed b s.u3)
  · exact seedOf_setU4 j s (m3aByte_seed b s.u4)
  · exact seedOf_setU5 j s (m3fByte_seed b s.u5)

theorem m3fFinish_snd_seed (u : M3fRegs) : (m3fFinish u).2.seed = u.seed := by
  cases hv : u.finv
  · rw [m3fFinish_of_invalid hv]
  · rw [m3fFinish_of_valid hv]

end Seeds

/-- The only update of a seed is the one allowed to `INIT` of its unit. -/
theorem Update.run_seedOf {i : Instr} {u : Update} (hu : u.allowed i) {j : HashUnit} (hj : ∀ op, i ≠ initOf j op)
    (s : State) : seedOf j (u.run s) = seedOf j s := by
  cases u with
  | seed k op => exact seedOf_seedUnit_of_ne j k s op fun hjk => hj op (hjk ▸ hu)
  | construct k => exact seedOf_resetUnit j k s
  | byte k b => exact seedOf_byteUnit j k s b
  | fillCache => exact seedOf_setU5 j s (m3fFinish_snd_seed s.u5)
  | _ => cases j <;> rfl

theorem exec_seedOf {i : Instr} {j : HashUnit} (hj : ∀ op, i ≠ initOf j op) {s t : State} (h : exec i s = .next t) :
    seedOf j t = seedOf j s :=
  exec_keeps (P := fun t => seedOf j t = seedOf j s) (fun _ hu t ht => (Update.run_seedOf hu hj t).trans ht) h rfl

theorem setWidth64_inj {x y : Word32} (h : x.setWidth 64 = y.setWidth 64) : x = y := by
  simpa using congrArg (BitVec.setWidth 32) h

theorem setWidth_setWidth_eq_and (a : Word64) : (a.setWidth 32).setWidth 64 = a &&& 0x00000000FFFFFFFF#64 := by
  apply BitVec.eq_of_toNat_eq
  have hmask := Nat.and_two_pow_sub_one_eq_mod a.toNat 32
  have hlt : a.toNat % 4294967296 < 18446744073709551616 := by omega
  simpa [Nat.mod_eq_of_lt hlt] using hmask.symm

/-- R122: what `INIT` does on a block without a fault. -/
theorem exec_initOf_of_live {s : State} (h : s.faulted = false) (k : HashUnit) (op : Operands) :
    exec (initOf k op) s = .next (resetUnit k (seedUnit k op s)) := by
  have hshell : exec (initOf k op) s = shellInit k op s := by cases k <;> rfl
  exact hshell.trans (whenLive_of_live h _)

/-- Settles O21, from the updates of a seed. -/
theorem seedsChangeOnlyByInit : Obligations.SeedsChangeOnlyByInit := by
  refine ⟨fun i s t h => ?_, fun k op s hs => ?_, fun k s => ?_⟩
  · exact ⟨fun hi => setWidth64_inj (exec_seedOf (j := .fnv32) hi h), fun hi => exec_seedOf (j := .fnv64) hi h,
      fun hi => setWidth64_inj (exec_seedOf (j := .fnvj32) hi h), fun hi => exec_seedOf (j := .fnvj64) hi h,
      fun hi => setWidth64_inj (exec_seedOf (j := .m3a) hi h), fun hi => setWidth64_inj (exec_seedOf (j := .m3f) hi h)⟩
  · refine ⟨_, exec_initOf_of_live hs k op, (seedOf_resetUnit k k _).trans ?_⟩
    cases k with
    | fnv64 => rfl
    | fnvj64 => rfl
    | _ => exact setWidth_setWidth_eq_and op.a
  · cases k <;> rfl

/-! ## The binding (R33, R262) -/

/-- The only update of the packer is the one allowed to `BIND`. -/
theorem Update.run_u6 {i : Instr} {u : Update} (hu : u.allowed i) (s : State) :
    (u.run s).u6 = s.u6 ∨ ((u.run s).u6.bound = true ∧ (u.run s).u6.sel1 ≠ (u.run s).u6.sel2
      ∧ ∃ sel1 sel2 op, i = .bindCmb sel1 sel2 op) := by
  cases u with
  | seed k op => exact .inl (seedUnit_u6 k op s)
  | construct k => exact .inl (resetUnit_u6 k s)
  | byte k b => exact .inl (byteUnit_u6 k b s)
  | bind k1 k2 => exact .inr ⟨rfl, hu⟩
  | _ => exact .inl rfl

theorem exec_u6 {i : Instr} {s t : State} (h : exec i s = .next t) :
    t.u6 = s.u6 ∨ (t.u6.bound = true ∧ t.u6.sel1 ≠ t.u6.sel2 ∧ ∃ sel1 sel2 op, i = .bindCmb sel1 sel2 op) := by
  refine exec_keeps (P := fun t => t.u6 = s.u6 ∨ (t.u6.bound = true ∧ t.u6.sel1 ≠ t.u6.sel2
    ∧ ∃ sel1 sel2 op, i = .bindCmb sel1 sel2 op)) (fun u hu t ht => ?_) h (.inl rfl)
  rcases Update.run_u6 hu t with hkeep | hbind
  · rwa [hkeep]
  · exact .inr hbind

/-- Settles O22, from the updates of the packer. -/
theorem bindingChangesOnlyByBind : Obligations.BindingChangesOnlyByBind := by
  refine ⟨fun i s t h => ?_, fun s => rfl⟩
  rcases exec_u6 h with hkeep | ⟨hbound, hne, sel1, sel2, op, rfl⟩
  · exact ⟨fun _ => hkeep, .inl hkeep, fun hb => hkeep ▸ hb⟩
  · exact ⟨fun hi => absurd rfl (hi sel1 sel2 op), .inr ⟨hbound, hne⟩, fun _ => hbound⟩

/-! ## Packets and steps -/

/-- R285: while a fault is recorded a packet has no effect. -/
theorem runPacket_of_faulted {s : State} (h : s.faulted = true) (p : Packet) : runPacket p s = .next s :=
  whenLive_of_faulted h _

/-- R90: a packet the decoder rejects takes its fault. -/
theorem runPacket_of_rejected {s : State} (h : s.faulted = false) {p : Packet} {code : FaultCode}
    (hp : decode p = .error code) : runPacket p s = .next (faultEntry code p s) := by
  rw [runPacket, whenLive_of_live h, hp]
  rfl

/-- R90: any other packet runs its instruction. -/
theorem runPacket_of_decoded {s : State} (h : s.faulted = false) {p : Packet} {i : Instr} (hp : decode p = .ok i) :
    runPacket p s = exec i s := by
  rw [runPacket, whenLive_of_live h, hp]

theorem step_of_idle {s : State} (h : s.host = []) : step s = .next s := by
  rw [step, takeEvent, h]

theorem step_of_event {s : State} {ev : HostEvent} {rest : List HostEvent} (h : s.host = ev :: rest) :
    step s = runEvent ev (s.setHost rest) := by
  rw [step, takeEvent, h]

/-- Settles O14, by the three outcomes of a packet. -/
theorem stepRunsDecodedInstruction : Obligations.StepRunsDecodedInstruction := by
  intro s p rest h
  have hstep : step s = runPacket p (s.setHost rest) := step_of_event h
  rw [hstep]
  exact ⟨fun hl i hp => runPacket_of_decoded (s := s.setHost rest) hl hp,
    fun hl code hp => runPacket_of_rejected (s := s.setHost rest) hl hp,
    fun hf => runPacket_of_faulted (s := s.setHost rest) hf p⟩

theorem run_succ_of_step {k : Nat} {s t : State} (h : step s = .next t) :
    Sys2Proof.core.run (k + 1) s = Sys2Proof.core.run k t := by
  have hcore : Sys2Proof.core.step s = .next t := h
  simp only [Host.Core.run, hcore]

/-- Settles O12, by induction on the number of steps. -/
theorem faultedRunOnlyConsumesPackets : Obligations.FaultedRunOnlyConsumesPackets := by
  intro k
  induction k with
  | zero => exact fun s _ _ => rfl
  | succ k ih =>
    intro s hf hpackets
    cases hh : s.host with
    | nil =>
      rw [run_succ_of_step (step_of_idle hh), ih s hf hpackets, hh, List.drop_nil, List.drop_nil]
    | cons ev rest =>
      obtain ⟨p, rfl⟩ := hpackets ev (hh ▸ .head rest)
      have hstep : step s = .next (s.setHost rest) :=
        (step_of_event hh).trans (runPacket_of_faulted (s := s.setHost rest) hf p)
      have hrest : ∀ ev ∈ (s.setHost rest).host, ∃ p : Packet, ev = .packet p :=
        fun ev hev => hpackets ev (hh ▸ .tail _ hev)
      rw [run_succ_of_step hstep, ih (s.setHost rest) hf hrest]
      rfl

/-- Settles O16, on the reset state, whose registers a hardware reset gives any state. -/
theorem hardwareResetValues : Obligations.HardwareResetValues := by
  rintro s (rfl | ⟨s0, rfl⟩)
  · exact ⟨rfl, rfl, rfl, rfl, rfl, rfl, rfl, rfl, rfl, rfl, rfl⟩
  · exact ⟨rfl, rfl, rfl, rfl, rfl, rfl, rfl, rfl, rfl, rfl, rfl⟩

/-- Settles O58, number by number. -/
theorem readPortNumbers : Obligations.ReadPortNumbers := by
  refine fun s => ⟨rfl, fun n hn => ?_⟩
  obtain ⟨m, rfl⟩ := Nat.exists_eq_add_of_le' hn
  rfl

/-! ## The hidden cache (R32, R241) -/

/-- Unit 5 with its finalized cache forgotten. -/
def M3fRegs.forgotten (u : M3fRegs) : M3fRegs := { u with finv := false, finlo := 0#64, finhi := 0#64 }

theorem forgetCache_eq (s : State) : forgetCache s = s.setU5 s.u5.forgotten := rfl

/-- The finalised lanes are a function of the lanes, the length and the partial block. -/
theorem m3fFinal_congr {u v : M3fRegs} (h1 : u.h1 = v.h1) (h2 : u.h2 = v.h2) (hlen : u.len = v.len)
    (hk1 : u.pk1 = v.pk1) (hk2 : u.pk2 = v.pk2) (hpos : u.ppos = v.ppos) : m3fFinal u = m3fFinal v := by
  simp only [m3fFinal, m3fFolded, h1, h2, hlen, hk1, hk2, hpos]

theorem m3fFinish_fst {u : M3fRegs} (h : CacheInv u) : (m3fFinish u).1 = m3fFinal u := by
  cases hv : u.finv
  · rw [m3fFinish_of_invalid hv]
  · rw [m3fFinish_of_valid hv, h hv]

theorem m3fFinish_snd_forgotten (u : M3fRegs) : (m3fFinish u).2.forgotten = u.forgotten := by
  cases hv : u.finv
  · rw [m3fFinish_of_invalid hv]; rfl
  · rw [m3fFinish_of_valid hv]

theorem sameReads_forgetCache {s : State} (h : CacheInv s.u5) : SameReads s (forgetCache s) where
  flt := rfl
  u0 := rfl
  u1 := rfl
  u2 := rfl
  u3 := rfl
  u4 := rfl
  u6 := rfl
  mem := rfl
  lanes := by
    rw [m3fFinish_fst h, m3fFinish_fst fun hv => absurd hv Bool.false_ne_true]
    exact m3fFinal_congr rfl rfl rfl rfl rfl rfl

theorem m3fByte_forgotten (b : Byte) (u : M3fRegs) : (m3fByte b u.forgotten).forgotten = (m3fByte b u).forgotten := by
  simp [M3fRegs.forgotten, m3fPlace1, m3fPlace2]

theorem forgetCache_seedUnit (k : HashUnit) (op : Operands) (s : State) :
    forgetCache (seedUnit k op (forgetCache s)) = forgetCache (seedUnit k op s) := by cases k <;> rfl

theorem forgetCache_resetUnit (k : HashUnit) (s : State) :
    forgetCache (resetUnit k (forgetCache s)) = forgetCache (resetUnit k s) := by cases k <;> rfl

theorem forgetCache_byteUnit (k : HashUnit) (b : Byte) (s : State) :
    forgetCache (byteUnit k b (forgetCache s)) = forgetCache (byteUnit k b s) := by
  rw [forgetCache_eq s]
  cases k
  · rw [byteUnit, byteUnit, State.setU5_u0]; rfl
  · rw [byteUnit, byteUnit, State.setU5_u1]; rfl
  · rw [byteUnit, byteUnit, State.setU5_u2]; rfl
  · rw [byteUnit, byteUnit, State.setU5_u3]; rfl
  · rw [byteUnit, byteUnit, State.setU5_u4]; rfl
  · exact congrArg s.setU5 (m3fByte_forgotten b s.u5)

theorem forgetCache_forgetCache (s : State) : forgetCache (forgetCache s) = forgetCache s := rfl

theorem forgetCache_finish (s : State) : forgetCache (s.setU5 (m3fFinish s.u5).2) = forgetCache s := by
  rw [forgetCache_eq, State.setU5_u5, State.setU5_setU5, m3fFinish_snd_forgotten, ← forgetCache_eq]

/-- What an update leaves outside the cache does not depend on the cache. -/
theorem Update.forgetCache_run (u : Update) (s : State) :
    forgetCache (u.run (forgetCache s)) = forgetCache (u.run s) := by
  cases u with
  | seed k op => exact forgetCache_seedUnit k op s
  | construct k => exact forgetCache_resetUnit k s
  | byte k b => exact forgetCache_byteUnit k b s
  | fillCache =>
    rw [Update.run, Update.run, forgetCache_finish, forgetCache_finish, forgetCache_forgetCache]
  | _ => rfl

theorem runUpdates_forgetCache (us : List Update) {s t : State} (h : forgetCache s = forgetCache t) :
    forgetCache (runUpdates us s) = forgetCache (runUpdates us t) := by
  induction us generalizing s t with
  | nil => exact h
  | cons u us ih => exact ih (by rw [← u.forgetCache_run s, h, u.forgetCache_run t])

/-- Settles O55: with the cache and without it a packet is the same list of updates, none of which reads the cache. -/
theorem cacheIsUnobservable : Obligations.CacheIsUnobservable := by
  intro p s hcache
  cases hs : s.faulted with
  | true =>
    exact ⟨s, forgetCache s, runPacket_of_faulted hs p, runPacket_of_faulted (s := forgetCache s) hs p, rfl⟩
  | false =>
    have hs' : (forgetCache s).faulted = false := hs
    cases hp : decode p with
    | error code => exact ⟨_, _, runPacket_of_rejected hs hp, runPacket_of_rejected hs' hp, rfl⟩
    | ok i =>
      obtain ⟨us, -, hrun⟩ := exec_completes i s
      exact ⟨_, _, (runPacket_of_decoded hs hp).trans (hrun s (.refl s)),
        (runPacket_of_decoded hs' hp).trans (hrun _ (sameReads_forgetCache hcache)),
        runUpdates_forgetCache us (forgetCache_forgetCache s).symm⟩

end Sys2Proof.Machine
end

section
/-!
SUPPORT. The invariant of the model: each procedure of a unit keeps the unit's own part, each update of the state keeps
the whole, and so does every step.
-/

namespace Sys2Proof.Machine

/-! ## The parts of the units (R36, R241) -/

/-- A counter modulo a power of two counts on with the length. -/
theorem toNat_add_one_mod {w v : Nat} (hwv : v ≤ w) (hv : 0 < v) {len : BitVec w} {pos : BitVec v}
    (h : pos.toNat = len.toNat % 2 ^ v) : (pos + 1#v).toNat = (len + 1#w).toNat % 2 ^ v := by
  have hone : 1 < 2 ^ v := Nat.one_lt_two_pow hv.ne'
  have honew : 1 < 2 ^ w := Nat.one_lt_two_pow (by omega)
  rw [BitVec.toNat_add, BitVec.toNat_add, BitVec.toNat_ofNat, BitVec.toNat_ofNat, Nat.mod_eq_of_lt hone,
    Nat.mod_eq_of_lt honew, Nat.mod_mod_of_dvd _ (Nat.pow_dvd_pow 2 hwv), h, Nat.mod_add_mod]

theorem fnvj32Reset_inv (u : Fnvj32Regs) : Fnvj32Inv (fnvj32Reset u) := by simp [Fnvj32Inv]

theorem fnvj64Reset_inv (u : Fnvj64Regs) : Fnvj64Inv (fnvj64Reset u) := by simp [Fnvj64Inv]

theorem m3aReset_inv (u : M3aRegs) : M3aInv (m3aReset u) := by simp [M3aInv]

theorem m3fReset_inv (u : M3fRegs) : M3fInv (m3fReset u) := by simp [M3fInv]

/-- A byte put big-endian at place `p` leaves nothing below the first `p + 1` bytes. -/
theorem placeBE_shiftLeft {w n p : Nat} (hw : w = 8 * (n + 1)) (hp : p ≤ n) (b : Byte) {x : BitVec w}
    (hx : x <<< (8 * p) = 0#w) : (x ||| b.setWidth w <<< (8 * (n - p))) <<< (8 * (p + 1)) = 0#w := by
  rw [BitVec.shiftLeft_or_distrib, ← BitVec.shiftLeft_add, Nat.mul_succ, BitVec.shiftLeft_add, hx,
    BitVec.zero_shiftLeft, BitVec.shiftLeft_eq_zero (by omega), BitVec.or_zero]

/-- A byte put little-endian at place `p` leaves nothing above the first `p + 1` bytes. -/
theorem placeLE_shiftRight {w : Nat} (p : Nat) (b : Byte) {x : BitVec w} (hx : x >>> (8 * p) = 0#w) :
    (x ||| b.setWidth w <<< (8 * p)) >>> (8 * (p + 1)) = 0#w := by
  rw [BitVec.ushiftRight_or_distrib, Nat.mul_succ, BitVec.shiftRight_add, hx, BitVec.zero_ushiftRight,
    BitVec.zero_or]
  apply BitVec.eq_of_getLsbD_eq
  intro i _
  simp [show 8 * p + 8 + i - 8 * p = 8 + i by omega]

theorem fnvj32Byte_inv (b : Byte) {u : Fnvj32Regs} (h : Fnvj32Inv u) : Fnvj32Inv (fnvj32Byte b u) := by
  obtain ⟨hpos, hpw⟩ := h
  have hcount : (u.ppos + 1#2).toNat = (u.len + 1#32).toNat % 4 := toNat_add_one_mod (by decide) (by decide) hpos
  refine ⟨by rwa [fnvj32Byte_ppos, fnvj32Byte_len], ?_⟩
  rw [fnvj32Byte_pw, fnvj32Byte_ppos]
  split
  · exact BitVec.zero_shiftLeft _
  · rename_i hne
    have hp : (u.ppos + 1#2).toNat = u.ppos.toNat + 1 := by bv_omega
    rw [hp]
    exact placeBE_shiftLeft (by decide) (by omega) b hpw

theorem fnvj64Byte_inv (b : Byte) {u : Fnvj64Regs} (h : Fnvj64Inv u) : Fnvj64Inv (fnvj64Byte b u) := by
  obtain ⟨hpos, hpw⟩ := h
  have hcount : (u.ppos + 1#3).toNat = (u.len + 1#64).toNat % 8 := toNat_add_one_mod (by decide) (by decide) hpos
  refine ⟨by rwa [fnvj64Byte_ppos, fnvj64Byte_len], ?_⟩
  rw [fnvj64Byte_pw, fnvj64Byte_ppos]
  split
  · exact BitVec.zero_shiftLeft _
  · rename_i hne
    have hp : (u.ppos + 1#3).toNat = u.ppos.toNat + 1 := by bv_omega
    rw [hp]
    exact placeBE_shiftLeft (by decide) (by omega) b hpw

theorem m3aByte_inv (b : Byte) {u : M3aRegs} (h : M3aInv u) : M3aInv (m3aByte b u) := by
  obtain ⟨hpos, hpk⟩ := h
  have hcount : (u.ppos + 1#2).toNat = (u.len + 1#32).toNat % 4 := toNat_add_one_mod (by decide) (by decide) hpos
  refine ⟨by rwa [m3aByte_ppos, m3aByte_len], ?_⟩
  rw [m3aByte_pk1, m3aByte_ppos]
  split
  · exact BitVec.zero_ushiftRight
  · rename_i hne
    have hp : (u.ppos + 1#2).toNat = u.ppos.toNat + 1 := by bv_omega
    rw [hp]
    exact placeLE_shiftRight _ b hpk

theorem m3fByte_inv (b : Byte) {u : M3fRegs} (h : M3fInv u) : M3fInv (m3fByte b u) := by
  obtain ⟨hpos, hpk1, hpk2⟩ := h
  have hcount : (u.ppos + 1#4).toNat = (u.len + 1#64).toNat % 16 := toNat_add_one_mod (by decide) (by decide) hpos
  refine ⟨by rwa [m3fByte_ppos, m3fByte_len], ?_⟩
  rw [m3fByte_pk1, m3fByte_pk2, m3fByte_ppos]
  split
  · exact ⟨BitVec.zero_ushiftRight, BitVec.zero_ushiftRight⟩
  · rename_i hne
    have hp : (u.ppos + 1#4).toNat = u.ppos.toNat + 1 := by bv_omega
    rw [hp, m3fPlace1, m3fPlace2]
    split
    · rename_i hlt
      rw [Nat.min_eq_left (by omega)] at hpk1 ⊢
      rw [Nat.sub_eq_zero_of_le (by omega)] at hpk2 ⊢
      exact ⟨placeLE_shiftRight _ b hpk1, hpk2⟩
    · rename_i hge
      rw [Nat.min_eq_right (by omega)] at hpk1 ⊢
      rw [Nat.sub_add_comm (by omega)]
      exact ⟨hpk1, placeLE_shiftRight _ b hpk2⟩

theorem m3fFinish_inv {u : M3fRegs} (h : M3fInv u) : M3fInv (m3fFinish u).2 := by
  cases hv : u.finv
  · rw [m3fFinish_of_invalid hv]; exact h
  · rw [m3fFinish_of_valid hv]; exact h

/-- A cache that is not valid is no claim. -/
theorem cacheInv_of_invalid {u : M3fRegs} (h : u.finv = false) : CacheInv u :=
  fun hv => absurd hv (h ▸ Bool.false_ne_true)

/-- The seed is not among the registers that the finalised lanes depend on. -/
theorem cacheInv_withSeed {u : M3fRegs} (h : CacheInv u) (seed : Word32) : CacheInv { u with seed := seed } :=
  fun hv => (h hv).trans (m3fFinal_congr rfl rfl rfl rfl rfl rfl)

theorem m3fFinish_cacheInv {u : M3fRegs} (h : CacheInv u) : CacheInv (m3fFinish u).2 := by
  cases hv : u.finv
  · rw [m3fFinish_of_invalid hv]
    exact fun _ => m3fFinal_congr rfl rfl rfl rfl rfl rfl
  · rwa [m3fFinish_of_valid hv]

/-! ## Updates of one part of the state -/

section Parts

variable {s : State} (h : s.Inv)
include h

theorem State.Inv.setRes (x : ResultRegs) : (s.setRes x).Inv := h

theorem State.Inv.setHost (x : List HostEvent) : (s.setHost x).Inv := h

theorem State.Inv.setU0 (x : Fnv32Regs) : (s.setU0 x).Inv := h

theorem State.Inv.setU1 (x : Fnv64Regs) : (s.setU1 x).Inv := h

theorem State.Inv.setFlt {x : FaultRegs} (hx : FaultInv x) : (s.setFlt x).Inv := by
  obtain ⟨-, h2, h3, h4, h5, hc, h6, hm⟩ := h
  exact ⟨hx, h2, h3, h4, h5, hc, h6, hm⟩

theorem State.Inv.setU2 {x : Fnvj32Regs} (hx : Fnvj32Inv x) : (s.setU2 x).Inv := by
  obtain ⟨hf, -, h3, h4, h5, hc, h6, hm⟩ := h
  exact ⟨hf, hx, h3, h4, h5, hc, h6, hm⟩

theorem State.Inv.setU3 {x : Fnvj64Regs} (hx : Fnvj64Inv x) : (s.setU3 x).Inv := by
  obtain ⟨hf, h2, -, h4, h5, hc, h6, hm⟩ := h
  exact ⟨hf, h2, hx, h4, h5, hc, h6, hm⟩

theorem State.Inv.setU4 {x : M3aRegs} (hx : M3aInv x) : (s.setU4 x).Inv := by
  obtain ⟨hf, h2, h3, -, h5, hc, h6, hm⟩ := h
  exact ⟨hf, h2, h3, hx, h5, hc, h6, hm⟩

theorem State.Inv.setU5 {x : M3fRegs} (hx : M3fInv x) (hxc : CacheInv x) : (s.setU5 x).Inv := by
  obtain ⟨hf, h2, h3, h4, -, -, h6, hm⟩ := h
  exact ⟨hf, h2, h3, h4, hx, hxc, h6, hm⟩

theorem State.Inv.setU6 {x : CmbRegs} (hx : PackerInv x) : (s.setU6 x).Inv := by
  obtain ⟨hf, h2, h3, h4, h5, hc, -, hm⟩ := h
  exact ⟨hf, h2, h3, h4, h5, hc, hx, hm⟩

theorem State.Inv.setMem {x : Memory} (hx : x.wf = true) : (s.setMem x).Inv := by
  obtain ⟨hf, h2, h3, h4, h5, hc, h6, -⟩ := h
  exact ⟨hf, h2, h3, h4, h5, hc, h6, hx⟩

/-! ## The elementary updates -/

theorem State.Inv.faultEntry (code : FaultCode) (p : Packet) : (faultEntry code p s).Inv := by
  refine h.setFlt (.inr ?_)
  change statusOf code ∈ _
  cases code <;> decide

theorem State.Inv.seedUnit (k : HashUnit) (op : Operands) : (seedUnit k op s).Inv := by
  obtain ⟨-, h2, h3, h4, h5, hc, -, -⟩ := id h
  cases k with
  | fnv32 => exact h.setU0 _
  | fnv64 => exact h.setU1 _
  | fnvj32 => exact h.setU2 h2
  | fnvj64 => exact h.setU3 h3
  | m3a => exact h.setU4 h4
  | m3f => exact h.setU5 h5 (cacheInv_withSeed hc _)

theorem State.Inv.resetUnit (k : HashUnit) : (resetUnit k s).Inv := by
  cases k with
  | fnv32 => exact h.setU0 _
  | fnv64 => exact h.setU1 _
  | fnvj32 => exact h.setU2 (fnvj32Reset_inv _)
  | fnvj64 => exact h.setU3 (fnvj64Reset_inv _)
  | m3a => exact h.setU4 (m3aReset_inv _)
  | m3f => exact h.setU5 (m3fReset_inv _) (cacheInv_of_invalid (m3fReset_finv _))

theorem State.Inv.byteUnit (k : HashUnit) (b : Byte) : (byteUnit k b s).Inv := by
  obtain ⟨-, h2, h3, h4, h5, -, -, -⟩ := id h
  cases k with
  | fnv32 => exact h.setU0 _
  | fnv64 => exact h.setU1 _
  | fnvj32 => exact h.setU2 (fnvj32Byte_inv b h2)
  | fnvj64 => exact h.setU3 (fnvj64Byte_inv b h3)
  | m3a => exact h.setU4 (m3aByte_inv b h4)
  | m3f => exact h.setU5 (m3fByte_inv b h5) (cacheInv_of_invalid (m3fByte_finv b _))

/-- Every update that an instruction may be made of keeps the invariant. -/
theorem State.Inv.run {i : Instr} {u : Update} (hu : u.allowed i) : (u.run s).Inv := by
  obtain ⟨-, -, -, -, h5, hc, -, -⟩ := id h
  cases u with
  | fault code p => exact h.faultEntry code p
  | seed k op => exact h.seedUnit k op
  | construct k => exact h.resetUnit k
  | byte k b => exact h.byteUnit k b
  | dropCache => exact h.setU5 h5 (cacheInv_of_invalid rfl)
  | fillCache => exact h.setU5 (m3fFinish_inv h5) (m3fFinish_cacheInv hc)
  | bind k1 k2 => exact h.setU6 ⟨fun _ => hu.1, fun hb => Bool.noConfusion hb⟩
  | writeLow v => exact h.setRes _
  | writePair v w => exact h.setRes _
  | writeAll str => exact h.setRes _

end Parts

/-! ## Steps -/

theorem exec_inv {i : Instr} {s t : State} (h : exec i s = .next t) (hs : s.Inv) : t.Inv :=
  exec_keeps (fun _ hu _ hs => hs.run hu) h hs

theorem runPacket_inv {p : Packet} {s t : State} (h : runPacket p s = .next t) (hs : s.Inv) : t.Inv := by
  cases hf : s.faulted with
  | true =>
    rw [runPacket_of_faulted hf] at h
    exact Host.Outcome.next.inj h ▸ hs
  | false =>
    cases hp : decode p with
    | error code =>
      rw [runPacket_of_rejected hf hp] at h
      exact Host.Outcome.next.inj h ▸ hs.faultEntry code p
    | ok i => exact exec_inv (runPacket_of_decoded hf hp ▸ h) hs

/-- Settles O17, on the registers of the reset state. -/
theorem invAtReset : Obligations.InvAtReset :=
  ⟨.inl rfl, by decide, by decide, by decide, by decide, cacheInv_of_invalid rfl, by decide, by decide⟩

theorem hardwareReset_inv {s : State} (hs : s.Inv) : (hardwareReset s).Inv := by
  obtain ⟨-, -, -, -, -, -, -, hmem⟩ := hs
  exact (State.Inv.setMem invAtReset hmem).setHost s.host

theorem runEvent_inv {ev : HostEvent} {s t : State} (h : runEvent ev s = .next t) (hs : s.Inv) : t.Inv := by
  cases ev with
  | packet p => exact runPacket_inv h hs
  | bufWrite addr byte =>
    obtain ⟨-, -, -, -, -, -, -, hmem⟩ := id hs
    rw [runEvent] at h
    split at h
    · rename_i haddr
      exact Host.Outcome.next.inj h ▸ hs.setMem (Memory.write_wf hmem haddr byte)
    · exact absurd h (by simp)
  | hardwareReset => exact Host.Outcome.next.inj h ▸ hardwareReset_inv hs

/-- Settles O18: no event, or one event of the host, each of whose kinds keeps the invariant. -/
theorem stepKeepsInv : Obligations.StepKeepsInv := by
  intro s t hs h
  cases hh : s.host with
  | nil =>
    rw [step_of_idle hh] at h
    exact Host.Outcome.next.inj h ▸ hs
  | cons ev rest =>
    rw [step_of_event hh] at h
    exact runEvent_inv h (hs.setHost rest)

end Sys2Proof.Machine
end

section
/-!
SUPPORT. A stream of bytes after construction: the bytes of the unfinished input block, how one more byte is put into a
partial buffer in either byte order, and the claim for units 2 to 5.
-/

namespace Sys2Proof.Machine

/-! ## Bytes and numbers (R13) -/

theorem beNat_concat (bs : List Byte) (b : Byte) : beNat (bs ++ [b]) = beNat bs * 256 + b.toNat := by
  induction bs with
  | nil => simp [beNat]
  | cons c cs ih =>
    rw [List.cons_append, beNat, beNat, ih, List.length_append, List.length_singleton, Nat.pow_succ]
    ring

theorem leNat_concat (bs : List Byte) (b : Byte) : leNat (bs ++ [b]) = 256 ^ bs.length * b.toNat + leNat bs := by
  induction bs with
  | nil => simp [leNat]
  | cons c cs ih =>
    rw [List.cons_append, leNat, leNat, ih, List.length_cons, Nat.pow_succ]
    ring

theorem leNat_lt (bs : List Byte) : leNat bs < 256 ^ bs.length := by
  induction bs with
  | nil => simp [leNat]
  | cons b bs ih =>
    have hb := b.isLt
    rw [leNat, List.length_cons, Nat.pow_succ]
    omega

theorem pow_256_eq (n : Nat) : 256 ^ n = 2 ^ (8 * n) := by rw [Nat.pow_mul]

/-- A byte of a wider word, moved up by `k` bits within it. -/
theorem toNat_byte_shiftLeft {w k : Nat} (h : k + 8 ≤ w) (b : Byte) :
    (b.setWidth w <<< k).toNat = 2 ^ k * b.toNat := by
  have hb : b.toNat < 2 ^ 8 := b.isLt
  have hfits : 2 ^ k * b.toNat < 2 ^ w := calc
    2 ^ k * b.toNat < 2 ^ k * 2 ^ 8 := Nat.mul_lt_mul_of_pos_left hb (Nat.two_pow_pos k)
    _ = 2 ^ (k + 8) := (Nat.pow_add 2 k 8).symm
    _ ≤ 2 ^ w := Nat.pow_le_pow_right (by decide) h
  have hbw : b.toNat < 2 ^ w := hb.trans_le (Nat.pow_le_pow_right (by decide) (by omega))
  rw [BitVec.toNat_shiftLeft, BitVec.toNat_setWidth, Nat.mod_eq_of_lt hbw, Nat.shiftLeft_eq, Nat.mul_comm,
    Nat.mod_eq_of_lt hfits]

/-- One more byte in its big-endian place of a word of `n` bytes. -/
theorem toNat_placeBE {w n : Nat} (hw : w = 8 * n) {r : List Byte} (hr : r.length < n) (b : Byte) {x : BitVec w}
    (hx : x.toNat = beNat r * 256 ^ (n - r.length)) :
    (x ||| b.setWidth w <<< (8 * (n - 1 - r.length))).toNat
      = beNat (r ++ [b]) * 256 ^ (n - (r ++ [b]).length) := by
  obtain ⟨k, rfl⟩ := Nat.exists_eq_add_of_lt hr
  have hplace : r.length + k + 1 - 1 - r.length = k := by omega
  have hold : r.length + k + 1 - r.length = k + 1 := by omega
  have hnew : r.length + k + 1 - (r ++ [b]).length = k := by simp
  have hlt : 2 ^ (8 * k) * b.toNat < 2 ^ (8 * (k + 1)) := by
    rw [Nat.mul_succ, Nat.pow_add]
    exact Nat.mul_lt_mul_of_pos_left b.isLt (Nat.two_pow_pos _)
  rw [hplace, BitVec.toNat_or, toNat_byte_shiftLeft (by omega), hx, hold, hnew, pow_256_eq, pow_256_eq,
    Nat.mul_comm (beNat r), ← Nat.two_pow_add_eq_or_of_lt hlt, beNat_concat, Nat.mul_succ, Nat.pow_add]
  ring

/-- One more byte in its little-endian place of a word. -/
theorem toNat_placeLE {w : Nat} {r : List Byte} (hr : 8 * r.length + 8 ≤ w) (b : Byte) {x : BitVec w}
    (hx : x.toNat = leNat r) : (x ||| b.setWidth w <<< (8 * r.length)).toNat = leNat (r ++ [b]) := by
  have hlt : leNat r < 2 ^ (8 * r.length) := pow_256_eq r.length ▸ leNat_lt r
  rw [BitVec.toNat_or, toNat_byte_shiftLeft hr, hx, Nat.or_comm, ← Nat.two_pow_add_eq_or_of_lt hlt, leNat_concat,
    pow_256_eq]

/-! ## The unfinished input block -/

/-- The bytes of a stream after its last full block of `n`. -/
def unfinished (n : Nat) (bs : List Byte) : List Byte := bs.drop (n * (bs.length / n))

theorem length_unfinished (n : Nat) (bs : List Byte) : (unfinished n bs).length = bs.length % n := by
  rw [unfinished, List.length_drop, Nat.mod_eq_sub]

/-- A byte that does not finish the block. -/
theorem unfinished_concat {n : Nat} {bs : List Byte} (b : Byte) (h : (unfinished n bs).length + 1 < n) :
    unfinished n (bs ++ [b]) = unfinished n bs ++ [b] := by
  rw [length_unfinished] at h
  have hdiv : (bs.length + 1) / n = bs.length / n := Nat.succ_div_of_not_dvd fun hdvd => by
    have := Nat.add_mod bs.length 1 n
    rw [Nat.mod_eq_zero_of_dvd hdvd, Nat.mod_eq_of_lt (show 1 < n by omega), Nat.mod_eq_of_lt h] at this
    omega
  rw [unfinished, unfinished, List.length_append, List.length_singleton, hdiv,
    List.drop_append_of_le_length (Nat.mul_div_le _ _)]

/-- A byte that finishes the block. -/
theorem unfinished_concat_full {n : Nat} {bs : List Byte} (b : Byte) (h : (unfinished n bs).length + 1 = n) :
    unfinished n (bs ++ [b]) = [] := by
  apply List.length_eq_zero_iff.1
  rw [length_unfinished] at h ⊢
  rw [List.length_append, List.length_singleton, ← Nat.mod_add_mod, h, Nat.mod_self]

/-! ## Running a stream -/

theorem byteUnit_faulted (k : HashUnit) (b : Byte) (s : State) : (byteUnit k b s).faulted = s.faulted := by
  rw [State.faulted, byteUnit_flt, State.faulted]

/-- R124: what `UPDB` does on a block without a fault. -/
theorem exec_updbOf_of_live {s : State} (h : s.faulted = false) (k : HashUnit) (b : Byte) (op : Operands) :
    exec (updbOf k b op) s = .next (byteUnit k b s) := by
  have hshell : exec (updbOf k b op) s = shellUpdb k b s := by cases k <;> rfl
  exact hshell.trans (whenLive_of_live h _)

theorem execAll_cons_of_next {i : Instr} {s t : State} (h : exec i s = .next t) (is : List Instr) :
    execAll (i :: is) s = execAll is t := by
  simp only [execAll, h]

theorem execAll_updbOf {s : State} (h : s.faulted = false) (k : HashUnit) (op : Operands) (bs : List Byte) :
    execAll (bs.map fun b => updbOf k b op) s = .next (bs.foldl (fun s b => byteUnit k b s) s) := by
  induction bs generalizing s with
  | nil => rfl
  | cons b bs ih =>
    rw [List.map_cons, execAll_cons_of_next (exec_updbOf_of_live h k b op), ih (by rwa [byteUnit_faulted])]
    rfl

/-- A relation of the bytes so far and the state that construction begins and each byte keeps holds of the whole
stream. -/
theorem execAll_stream {k : HashUnit} {op : Operands} {s : State} {P : List Byte → State → Prop}
    (hs : s.faulted = false) (hnil : P [] (resetUnit k (seedUnit k op s)))
    (hstep : ∀ bs b t, P bs t → P (bs ++ [b]) (byteUnit k b t)) (bs : List Byte) :
    ∃ t, execAll (initOf k op :: bs.map fun b => updbOf k b op) s = .next t ∧ P bs t := by
  have hlive : (resetUnit k (seedUnit k op s)).faulted = false := by
    rwa [State.faulted, resetUnit_flt, seedUnit_flt]
  refine ⟨_, (execAll_cons_of_next (exec_initOf_of_live hs k op) _).trans (execAll_updbOf hlive k op bs), ?_⟩
  induction bs using List.reverseRecOn with
  | nil => exact hnil
  | append_singleton bs b ih =>
    rw [List.foldl_append]
    exact hstep bs b _ ih

/-! ## The units after a stream (R36) -/

/-- `LEN`, `PPOS` and `PW` of unit 2 after the bytes of a stream. -/
def Fnvj32Stream (bs : List Byte) (u : Fnvj32Regs) : Prop :=
  u.len = BitVec.ofNat 32 bs.length ∧ u.ppos = BitVec.ofNat 2 bs.length
    ∧ u.pw.toNat = beNat (unfinished 4 bs) * 256 ^ (4 - (unfinished 4 bs).length)

/-- `LEN`, `PPOS` and `PW` of unit 3 after the bytes of a stream. -/
def Fnvj64Stream (bs : List Byte) (u : Fnvj64Regs) : Prop :=
  u.len = BitVec.ofNat 64 bs.length ∧ u.ppos = BitVec.ofNat 3 bs.length
    ∧ u.pw.toNat = beNat (unfinished 8 bs) * 256 ^ (8 - (unfinished 8 bs).length)

/-- `LEN`, `PPOS` and `PK1` of unit 4 after the bytes of a stream. -/
def M3aStream (bs : List Byte) (u : M3aRegs) : Prop :=
  u.len = BitVec.ofNat 32 bs.length ∧ u.ppos = BitVec.ofNat 2 bs.length ∧ u.pk1.toNat = leNat (unfinished 4 bs)

/-- `LEN`, `PPOS`, `PK1` and `PK2` of unit 5 after the bytes of a stream. -/
def M3fStream (bs : List Byte) (u : M3fRegs) : Prop :=
  u.len = BitVec.ofNat 64 bs.length ∧ u.ppos = BitVec.ofNat 4 bs.length
    ∧ u.pk1.toNat = leNat ((unfinished 16 bs).take 8) ∧ u.pk2.toNat = leNat ((unfinished 16 bs).drop 8)

/-- A counter that holds the number of bytes counts on. -/
theorem ofNat_length_concat (w : Nat) (bs : List Byte) (b : Byte) :
    BitVec.ofNat w bs.length + 1#w = BitVec.ofNat w (bs ++ [b]).length := by
  rw [List.length_append, List.length_singleton, BitVec.ofNat_add]

/-- `PPOS` is the number of bytes of the unfinished block. -/
theorem toNat_ppos {v : Nat} {bs : List Byte} {pos : BitVec v} (h : pos = BitVec.ofNat v bs.length) :
    pos.toNat = (unfinished (2 ^ v) bs).length := by
  rw [h, BitVec.toNat_ofNat, length_unfinished]

theorem fnvj32Byte_stream {bs : List Byte} (b : Byte) {u : Fnvj32Regs} (h : Fnvj32Stream bs u) :
    Fnvj32Stream (bs ++ [b]) (fnvj32Byte b u) := by
  obtain ⟨hlen, hpos, hpw⟩ := h
  have hp : u.ppos.toNat = (unfinished 4 bs).length := toNat_ppos hpos
  refine ⟨by rw [fnvj32Byte_len, hlen, ofNat_length_concat], by rw [fnvj32Byte_ppos, hpos, ofNat_length_concat], ?_⟩
  rw [fnvj32Byte_pw]
  by_cases hfull : u.ppos = 3#2
  · rw [if_pos hfull, unfinished_concat_full b (by rw [← hp, hfull]; rfl)]
    rfl
  · rw [if_neg hfull, fnvj32Place, hp, unfinished_concat b (by bv_omega)]
    exact toNat_placeBE (n := 4) rfl (hp ▸ u.ppos.isLt) b hpw

theorem fnvj64Byte_stream {bs : List Byte} (b : Byte) {u : Fnvj64Regs} (h : Fnvj64Stream bs u) :
    Fnvj64Stream (bs ++ [b]) (fnvj64Byte b u) := by
  obtain ⟨hlen, hpos, hpw⟩ := h
  have hp : u.ppos.toNat = (unfinished 8 bs).length := toNat_ppos hpos
  refine ⟨by rw [fnvj64Byte_len, hlen, ofNat_length_concat], by rw [fnvj64Byte_ppos, hpos, ofNat_length_concat], ?_⟩
  rw [fnvj64Byte_pw]
  by_cases hfull : u.ppos = 7#3
  · rw [if_pos hfull, unfinished_concat_full b (by rw [← hp, hfull]; rfl)]
    rfl
  · rw [if_neg hfull, fnvj64Place, hp, unfinished_concat b (by bv_omega)]
    exact toNat_placeBE (n := 8) rfl (hp ▸ u.ppos.isLt) b hpw

theorem m3aByte_stream {bs : List Byte} (b : Byte) {u : M3aRegs} (h : M3aStream bs u) :
    M3aStream (bs ++ [b]) (m3aByte b u) := by
  obtain ⟨hlen, hpos, hpk⟩ := h
  have hp : u.ppos.toNat = (unfinished 4 bs).length := toNat_ppos hpos
  refine ⟨by rw [m3aByte_len, hlen, ofNat_length_concat], by rw [m3aByte_ppos, hpos, ofNat_length_concat], ?_⟩
  rw [m3aByte_pk1]
  by_cases hfull : u.ppos = 3#2
  · rw [if_pos hfull, unfinished_concat_full b (by rw [← hp, hfull]; rfl)]
    rfl
  · rw [if_neg hfull, m3aPlace, hp, unfinished_concat b (by bv_omega)]
    exact toNat_placeLE (by omega) b hpk

/-- One more byte of an input block of unit 5 goes to the half of the partial block that its place is in. -/
theorem m3fPlace_halves {r : List Byte} (hr : r.length < 16) (b : Byte) {u : M3fRegs} (hp : u.ppos.toNat = r.length)
    (hpk1 : u.pk1.toNat = leNat (r.take 8)) (hpk2 : u.pk2.toNat = leNat (r.drop 8)) :
    (m3fPlace1 b u).toNat = leNat ((r ++ [b]).take 8) ∧ (m3fPlace2 b u).toNat = leNat ((r ++ [b]).drop 8) := by
  rw [m3fPlace1, m3fPlace2, hp]
  by_cases hlow : r.length < 8
  · rw [if_pos hlow, if_pos hlow, List.take_of_length_le (by simp; omega), List.drop_of_length_le (by simp; omega)]
    rw [List.take_of_length_le (by omega)] at hpk1
    rw [List.drop_of_length_le (by omega)] at hpk2
    exact ⟨toNat_placeLE (by omega) b hpk1, hpk2⟩
  · have hlen : (r.drop 8).length = r.length - 8 := List.length_drop
    rw [if_neg hlow, if_neg hlow, List.take_append_of_le_length (by omega), List.drop_append_of_le_length (by omega),
      ← hlen]
    exact ⟨hpk1, toNat_placeLE (by omega) b hpk2⟩

theorem m3fByte_stream {bs : List Byte} (b : Byte) {u : M3fRegs} (h : M3fStream bs u) :
    M3fStream (bs ++ [b]) (m3fByte b u) := by
  obtain ⟨hlen, hpos, hpk1, hpk2⟩ := h
  have hp : u.ppos.toNat = (unfinished 16 bs).length := toNat_ppos hpos
  refine ⟨by rw [m3fByte_len, hlen, ofNat_length_concat], by rw [m3fByte_ppos, hpos, ofNat_length_concat], ?_⟩
  rw [m3fByte_pk1, m3fByte_pk2]
  by_cases hfull : u.ppos = 15#4
  · rw [if_pos hfull, if_pos hfull, unfinished_concat_full b (by rw [← hp, hfull]; rfl)]
    exact ⟨rfl, rfl⟩
  · rw [if_neg hfull, if_neg hfull, unfinished_concat b (by bv_omega)]
    exact m3fPlace_halves (by omega) b hp hpk1 hpk2

/-- Settles O56: construction leaves what an empty stream leaves, and each byte keeps the account of the stream. -/
theorem lengthAndPartialBlockOfAStream : Obligations.LengthAndPartialBlockOfAStream := by
  intro s op bs hs
  exact ⟨
    execAll_stream (k := .fnvj32) (P := fun bs t => Fnvj32Stream bs t.u2) hs ⟨rfl, rfl, rfl⟩
      (fun _ b _ ht => fnvj32Byte_stream b ht) bs,
    execAll_stream (k := .fnvj64) (P := fun bs t => Fnvj64Stream bs t.u3) hs ⟨rfl, rfl, rfl⟩
      (fun _ b _ ht => fnvj64Byte_stream b ht) bs,
    execAll_stream (k := .m3a) (P := fun bs t => M3aStream bs t.u4) hs ⟨rfl, rfl, rfl⟩
      (fun _ b _ ht => m3aByte_stream b ht) bs,
    execAll_stream (k := .m3f) (P := fun bs t => M3fStream bs t.u5) hs ⟨rfl, rfl, rfl, rfl⟩
      (fun _ b _ ht => m3fByte_stream b ht) bs⟩

end Sys2Proof.Machine
end

section
/-!
SUPPORT. The buffer memory belongs to the host: no elementary update of an instruction touches it or the pending events,
and what the host's own events do to it.
-/

namespace Sys2Proof.Machine

/-! ## Instructions and the buffer (R61) -/

theorem Update.run_mem (u : Update) (s : State) : (u.run s).mem = s.mem := by
  cases u with
  | seed k op => exact seedUnit_mem k op s
  | construct k => exact resetUnit_mem k s
  | byte k b => exact byteUnit_mem k b s
  | _ => rfl

theorem Update.run_host (u : Update) (s : State) : (u.run s).host = s.host := by
  cases u with
  | seed k op => exact seedUnit_host k op s
  | construct k => exact resetUnit_host k s
  | byte k b => exact byteUnit_host k b s
  | _ => rfl

/-- R121: every instruction answers a next state in every state. -/
theorem exec_answers_next (i : Instr) (s : State) : ∃ t : State, exec i s = .next t := by
  obtain ⟨us, -, hrun⟩ := exec_completes i s
  exact ⟨runUpdates us s, hrun s (.refl s)⟩

/-- R61: the block itself never writes the buffer. -/
theorem exec_mem {i : Instr} {s t : State} (h : exec i s = .next t) : t.mem = s.mem :=
  exec_keeps (P := fun t => t.mem = s.mem) (fun u _ t ht => (u.run_mem t).trans ht) h rfl

theorem exec_host {i : Instr} {s t : State} (h : exec i s = .next t) : t.host = s.host :=
  exec_keeps (P := fun t => t.host = s.host) (fun u _ t ht => (u.run_host t).trans ht) h rfl

/-- Settles O13, from the elementary updates, none of which touches the buffer or the pending events. -/
theorem commandsCompleteAndLeaveMemory : Obligations.CommandsCompleteAndLeaveMemory := by
  intro i s
  obtain ⟨t, ht⟩ := exec_answers_next i s
  exact ⟨t, ht, exec_mem ht, exec_host ht⟩

/-! ## The host's own events (R61, R310, R313) -/

/-- Reading after the host's write, in a memory in its canonical form. -/
theorem Memory.byteAt_write {m : Memory} (h : m.wf = true) (addr : Nat) (byte : Byte) (x : Nat) :
    (m.write addr byte).byteAt x = if x = addr then byte else m.byteAt x := by
  obtain ⟨-, hcells⟩ := Bool.and_eq_true_iff.mp h
  exact cellAt_cellPut addr byte x hcells

theorem runEvent_bufWrite_inside {s : State} {addr : Nat} (h : addr < s.mem.size) (byte : Byte) :
    runEvent (.bufWrite addr byte) s = .next (s.setMem (s.mem.write addr byte)) :=
  if_pos h

/-- Log 5: outside the buffer the model stops. -/
theorem runEvent_bufWrite_outside {s : State} {addr : Nat} (h : ¬ addr < s.mem.size) (byte : Byte) :
    runEvent (.bufWrite addr byte) s = .fault (.hostWriteOutsideBuf addr) :=
  if_neg h

/-- Settles O15, by the oldest pending event: none, a write on either side of the bound, a hardware reset. -/
theorem stepHostEvents : Obligations.StepHostEvents := by
  intro s
  refine ⟨step_of_idle, fun addr byte rest hwf hhost => ?_, fun rest hhost => step_of_event hhost⟩
  rw [step_of_event hhost]
  split
  · next hin =>
    exact ⟨s.mem.write addr byte, runEvent_bufWrite_inside (s := s.setHost rest) hin byte, Memory.write_size ..,
      Memory.byteAt_write hwf addr byte⟩
  · next hout => exact runEvent_bufWrite_outside (s := s.setHost rest) hout byte

end Sys2Proof.Machine
end

section
/-!
SUPPORT. The decoder and the encoder against each other. `decode_cases` says once what the decoder can answer; a packet
is accepted exactly when it is a command word that a row selects (`Presents`), so decoding and encoding undo each other.
-/

namespace Sys2Proof

/-! ## The tables and the command word -/

theorem mnemonicOf_eq_some_iff {b : BitVec 8} {m : Mnemonic} : mnemonicOf b = some m ↔ opcodeBits m = b :=
  ⟨opcodeBits_of_mnemonicOf, fun h => h ▸ mnemonicOf_opcodeBits m⟩

theorem unitOf_eq_some_iff {b : BitVec 4} {u : UnitName} : unitOf b = some u ↔ unitBits u = b :=
  ⟨unitBits_of_unitOf, fun h => h ▸ unitOf_unitBits u⟩

theorem selectInstr_eq_none_iff {m : Mnemonic} {u : UnitName} {n e : Bool} {imm : Byte} {op : Operands} :
    selectInstr m u n e imm op = none ↔ u ∉ legalUnits m := by
  rw [← Option.isNone_iff_eq_none, ← Option.isSome_eq_false_iff, selectInstr_isSome, ← Bool.not_eq_true,
    List.contains_iff_mem]

theorem mem_legalUnits_of_selectInstr {m : Mnemonic} {u : UnitName} {n e : Bool} {imm : Byte} {op : Operands}
    {i : Instr} (h : selectInstr m u n e imm op = some i) : u ∈ legalUnits m := by
  rw [← List.contains_iff_mem, ← selectInstr_isSome m u n e imm op, h, Option.isSome_some]

/-- R81: the reserved bits of a command word. -/
theorem getElem_of_reserved_zero {cw : Word32} (hz1 : z1Field cw = 0#2) (hz0 : z0Field cw = 0#8) (i : Nat) (hi : i < 32)
    (h : 18 ≤ i ∧ i < 20 ∨ 8 ≤ i ∧ i < 16) : cw[i] = false := by
  rcases h with ⟨hlo, hhi⟩ | ⟨hlo, hhi⟩
  · have hbit := congrArg (BitVec.getLsbD · (i - 18)) hz1
    simpa [z1Field, show i - 18 < 2 by omega, Nat.add_sub_cancel' hlo, hi] using hbit
  · have hbit := congrArg (BitVec.getLsbD · (i - 8)) hz0
    simpa [z0Field, show i - 8 < 8 by omega, Nat.add_sub_cancel' hlo, hi] using hbit

/-- R81: a command word is made of its fields, when the reserved ones are zero. -/
theorem commandWord_of_fields {m : Mnemonic} {u : UnitName} {cw : Word32} (hop : opcodeBits m = opField cw)
    (hunit : unitBits u = unitField cw) (hz1 : z1Field cw = 0#2) (hz0 : z0Field cw = 0#8) :
    commandWord m u (nField cw) (eField cw) (immField cw) = cw := by
  apply BitVec.eq_of_getLsbD_eq
  intro i hi
  rw [getLsbD_commandWord, hop, hunit, opField, unitField, nField, eField, immField]
  have hreserved := getElem_of_reserved_zero hz1 hz0
  interval_cases i <;> simp [hreserved]

/-- R85 to R88: the flags and the immediate that a mnemonic on a unit does not use are zero. -/
def unusedZero (m : Mnemonic) (u : UnitName) (n e : Bool) (imm : Byte) : Bool :=
  (usesNull m || !n) && (usesByteOrder m u || !e) && immLegal m imm

theorem fieldsLegal_eq (m : Mnemonic) (u : UnitName) (cw : Word32) : fieldsLegal m u cw =
    (z1Field cw == 0#2 && z0Field cw == 0#8 && unusedZero m u (nField cw) (eField cw) (immField cw)) := by
  simp only [fieldsLegal, unusedZero, Bool.and_assoc]

theorem fieldsLegal_commandWord (m : Mnemonic) (u : UnitName) (n e : Bool) (imm : Byte) :
    fieldsLegal m u (commandWord m u n e imm) = unusedZero m u n e imm := by
  rw [fieldsLegal_eq, z1Field_commandWord, z0Field_commandWord, nField_commandWord, eField_commandWord,
    immField_commandWord, beq_self_eq_true, beq_self_eq_true, Bool.true_and, Bool.true_and]

/-! ## What the decoder can answer -/

/-- R90, steps 1 to 3: the four outcomes of decoding a packet, each with what leads to it. -/
inductive DecodeCase (p : Packet) : Except FaultCode Instr → Prop where
  /-- The opcode is not defined. -/
  | badOp (hm : mnemonicOf (opField p.cw) = none) : DecodeCase p (.error .illegalOp)
  /-- The unit is not defined, or the opcode is not legal on it. -/
  | badUnit {m : Mnemonic} (hm : mnemonicOf (opField p.cw) = some m)
      (hu : ∀ u, unitOf (unitField p.cw) = some u → u ∉ legalUnits m) : DecodeCase p (.error .illegalUnit)
  /-- A field the instruction does not use is not zero. -/
  | badField {m : Mnemonic} {u : UnitName} (hm : mnemonicOf (opField p.cw) = some m)
      (hu : unitOf (unitField p.cw) = some u) (hlegal : u ∈ legalUnits m) (hfields : fieldsLegal m u p.cw = false) :
      DecodeCase p (.error .illegalField)
  /-- The packet is accepted. -/
  | accepted {m : Mnemonic} {u : UnitName} {i : Instr} (hm : mnemonicOf (opField p.cw) = some m)
      (hu : unitOf (unitField p.cw) = some u)
      (hi : selectInstr m u (nField p.cw) (eField p.cw) (immField p.cw) p.ops = some i)
      (hfields : fieldsLegal m u p.cw = true) : DecodeCase p (.ok i)

theorem decode_cases (p : Packet) : DecodeCase p (decode p) := by
  rw [decode]
  split
  · next hm => exact .badOp hm
  · next m hm =>
    split
    · next hu => exact .badUnit hm fun u hu' => by rw [hu] at hu'; cases hu'
    · next u hu =>
      split
      · next hi =>
        refine .badUnit hm fun u' hu' => ?_
        rw [hu] at hu'
        cases hu'
        exact selectInstr_eq_none_iff.mp hi
      · next i hi =>
        split
        · next hf => exact .accepted hm hu hi hf
        · next hf => exact .badField hm hu (mem_legalUnits_of_selectInstr hi) (Bool.eq_false_of_not_eq_true hf)

/-- The decoder on a command word whose reserved fields are zero. -/
theorem decode_commandWord {m : Mnemonic} {u : UnitName} {n e : Bool} {imm : Byte} {op : Operands} {i : Instr}
    (hi : selectInstr m u n e imm op = some i) :
    decode ⟨commandWord m u n e imm, op⟩ = if unusedZero m u n e imm then .ok i else .error .illegalField := by
  simp only [decode, opField_commandWord, unitField_commandWord, nField_commandWord, eField_commandWord,
    immField_commandWord, mnemonicOf_opcodeBits, unitOf_unitBits, hi, fieldsLegal_commandWord]

/-! ## Accepted packets -/

/-- The packet is a command word that the row of the instruction selects, with the instruction's operands (R94). -/
inductive Presents : Packet → Instr → Prop where
  | intro (m : Mnemonic) (u : UnitName) (n e : Bool) (imm : Byte) (op : Operands) {i : Instr}
      (hi : selectInstr m u n e imm op = some i) (hunused : unusedZero m u n e imm = true) :
      Presents ⟨commandWord m u n e imm, op⟩ i

/-- R94: the decoder accepts exactly these packets. -/
theorem decode_eq_ok_iff {p : Packet} {i : Instr} : decode p = .ok i ↔ Presents p i := by
  constructor
  · intro h
    have hcase := decode_cases p
    rw [h] at hcase
    cases hcase with
    | accepted hm hu hi hfields =>
      rw [fieldsLegal_eq, Bool.and_eq_true, Bool.and_eq_true, beq_iff_eq, beq_iff_eq] at hfields
      obtain ⟨⟨hz1, hz0⟩, hunused⟩ := hfields
      have hcw := commandWord_of_fields (mnemonicOf_eq_some_iff.mp hm) (unitOf_eq_some_iff.mp hu) hz1 hz0
      have hp := Presents.intro _ _ _ _ _ p.ops hi hunused
      rwa [hcw] at hp
  · rintro ⟨m, u, n, e, imm, op, hi, hunused⟩
    rw [decode_commandWord hi, if_pos hunused]

/-- The packet of `BIND`, whose immediate holds the two selectors. -/
theorem presents_encode_bindCmb (sel1 sel2 : BitVec 3) (op : Operands) :
    Presents (encode (.bindCmb sel1 sel2 op)) (.bindCmb sel1 sel2 op) := by
  refine .intro .bind .cmb false false (bindImm sel1 sel2) op ?_ ?_
  · rw [selectInstr, sel1OfImm_bindImm, sel2OfImm_bindImm]
  · revert sel1 sel2
    decide

theorem presents_encode (i : Instr) : Presents (encode i) i := by
  cases i with
  | bindCmb sel1 sel2 op => exact presents_encode_bindCmb sel1 sel2 op
  | _ => exact .intro _ _ _ _ _ _ rfl rfl

/-- R87, R88: the bits of the immediate that a mnemonic uses; the others zero. -/
def usedImm (m : Mnemonic) (imm : Byte) : Byte :=
  match m with
  | .updb => imm
  | .bind => bindImm (sel1OfImm imm) (sel2OfImm imm)
  | _ => 0#8

theorem bindImm_of_immLegal :
    ∀ imm : Byte, immLegal .bind imm = true → bindImm (sel1OfImm imm) (sel2OfImm imm) = imm := by decide

theorem usedImm_of_immLegal {m : Mnemonic} {imm : Byte} (h : immLegal m imm = true) : usedImm m imm = imm := by
  cases m with
  | updb => rfl
  | bind => exact bindImm_of_immLegal imm h
  | _ => exact (beq_iff_eq.mp h).symm

theorem and_eq_right_of_or_not : ∀ {used flag : Bool}, (used || !flag) = true → (used && flag) = flag := by decide

/-- What the encoder gives back of the flags and the immediate an instruction was selected with: what it uses. -/
theorem encode_of_selectInstr {m : Mnemonic} {u : UnitName} {n e : Bool} {imm : Byte} {op : Operands} {i : Instr}
    (hi : selectInstr m u n e imm op = some i) :
    encode i = ⟨commandWord m u (usesNull m && n) (usesByteOrder m u && e) (usedImm m imm), op⟩ := by
  unfold selectInstr at hi
  split at hi <;> cases hi <;> rfl

/-- R88: with the unused fields zero, no bit of the command word is dropped. -/
theorem encode_of_presents {p : Packet} {i : Instr} (h : Presents p i) : encode i = p := by
  obtain ⟨m, u, n, e, imm, op, hi, hunused⟩ := h
  rw [unusedZero, Bool.and_eq_true, Bool.and_eq_true] at hunused
  obtain ⟨⟨hn, he⟩, himm⟩ := hunused
  rw [encode_of_selectInstr hi, and_eq_right_of_or_not hn, and_eq_right_of_or_not he, usedImm_of_immLegal himm]

/-! ## The claims -/

/-- Settles O1: the packet the encoder builds presents the instruction. -/
theorem decodeOfEncode : Obligations.DecodeOfEncode :=
  fun i => decode_eq_ok_iff.mpr (presents_encode i)

/-- Settles O2: the packet an accepted word comes from is the one the encoder builds. -/
theorem encodeOfDecode : Obligations.EncodeOfDecode :=
  fun _ _ h => encode_of_presents (decode_eq_ok_iff.mp h)

/-- A packet decodes to the instruction whose encoding it is. -/
theorem decode_of_encode_eq {p : Packet} {i : Instr} (h : encode i = p) : decode p = .ok i :=
  h ▸ decodeOfEncode i

/-- Settles O3, each word being the encoding of its instruction. -/
theorem specWordsDecode : Obligations.SpecWordsDecode := by
  refine ⟨?_, ?_, fun v => ?_, ?_, ?_, ?_⟩
  all_goals exact decode_of_encode_eq rfl

end Sys2Proof
end

section
/-!
SUPPORT. `BIND.CMB` (R261): the two selectors as hashing units, what a legal and an illegal pair do, and the words that
reach the instruction.
-/

namespace Sys2Proof.Machine

/-! ## The binding (R261, R262) -/

theorem hashUnitOf_selectorOf (k : HashUnit) : hashUnitOf (selectorOf k) = some k := by cases k <;> rfl

theorem selectorOf_of_hashUnitOf {sel : BitVec 3} {k : HashUnit} (h : hashUnitOf sel = some k) :
    selectorOf k = sel := by
  revert sel
  cases k <;> decide

theorem hashUnitOf_isSome : ∀ sel : BitVec 3, (hashUnitOf sel).isSome = decide (sel.toNat ≤ 5) := by decide

/-- R262: the legal pairs are those of two different hashing units. -/
theorem exists_units_of_legalBinding {sel1 sel2 : BitVec 3} (h : legalBinding sel1 sel2 = true) :
    ∃ k1 k2 : HashUnit, selectorOf k1 = sel1 ∧ selectorOf k2 = sel2 ∧ k1 ≠ k2 := by
  rw [legalBinding, Bool.and_eq_true, Bool.and_eq_true, ← hashUnitOf_isSome, ← hashUnitOf_isSome, decide_eq_true_eq,
    Option.isSome_iff_exists, Option.isSome_iff_exists] at h
  obtain ⟨⟨⟨k1, h1⟩, k2, h2⟩, hne⟩ := h
  have hs1 := selectorOf_of_hashUnitOf h1
  have hs2 := selectorOf_of_hashUnitOf h2
  exact ⟨k1, k2, hs1, hs2, fun hk => hne (hs1 ▸ hs2 ▸ congrArg selectorOf hk)⟩

theorem legalBinding_selectorOf {k1 k2 : HashUnit} (h : k1 ≠ k2) :
    legalBinding (selectorOf k1) (selectorOf k2) = true := by
  revert h
  cases k1 <;> cases k2 <;> decide

theorem exec_bindCmb (sel1 sel2 : BitVec 3) (op : Operands) (s : State) :
    exec (.bindCmb sel1 sel2 op) s = execBindCmb sel1 sel2 op s := rfl

/-- R261: a legal pair replaces the binding. -/
theorem exec_bindCmb_of_ne {s : State} (hs : s.faulted = false) {k1 k2 : HashUnit} (h : k1 ≠ k2) (op : Operands) :
    exec (.bindCmb (selectorOf k1) (selectorOf k2) op) s = .next (s.setU6 ⟨true, k1, k2⟩) := by
  rw [exec_bindCmb, execBindCmb, whenLive_of_live hs]
  simp only [hashUnitOf_selectorOf, if_neg h]

/-- R261: any other pair takes `ILLEGAL_FIELD`. -/
theorem exec_bindCmb_of_illegal {s : State} (hs : s.faulted = false) {sel1 sel2 : BitVec 3}
    (h : legalBinding sel1 sel2 = false) (op : Operands) : exec (.bindCmb sel1 sel2 op) s =
      .next (faultEntry .illegalField (encode (.bindCmb sel1 sel2 op)) s) := by
  rw [exec_bindCmb, execBindCmb, whenLive_of_live hs]
  split
  · next k1 k2 h1 h2 =>
    by_cases hk : k1 = k2
    · rw [if_pos hk]
      rfl
    · rw [← selectorOf_of_hashUnitOf h1, ← selectorOf_of_hashUnitOf h2, legalBinding_selectorOf hk] at h
      cases h
  · rfl

theorem encode_bindCmb (sel1 sel2 : BitVec 3) (op : Operands) : encode (.bindCmb sel1 sel2 op) =
    ⟨0x30600000#32 ||| sel2.setWidth 32 <<< 4 ||| sel1.setWidth 32, op⟩ := by
  have hcw : ∀ sel1 sel2 : BitVec 3, commandWord .bind .cmb false false (bindImm sel1 sel2) =
      0x30600000#32 ||| sel2.setWidth 32 <<< 4 ||| sel1.setWidth 32 := by decide
  exact congrArg (Packet.mk · op) (hcw sel1 sel2)

/-- R88, R90: a fixed bit of the immediate of `BIND` that is set is a field error. -/
theorem decode_bind_of_fixedBit {imm : Byte} (h : imm.getLsbD 3 = true ∨ imm.getLsbD 7 = true) (op : Operands) :
    decode ⟨0x30600000#32 ||| imm.setWidth 32, op⟩ = .error .illegalField := by
  have hcw : 0x30600000#32 ||| imm.setWidth 32 = commandWord .bind .cmb false false imm := rfl
  have hunused : unusedZero .bind .cmb false false imm = false := by
    rcases h with h | h <;> simp [unusedZero, immLegal, h]
  rw [hcw, decode_commandWord (i := .bindCmb (sel1OfImm imm) (sel2OfImm imm) op) rfl, hunused]
  rfl

/-- Settles O43, by the legality of the pair; the fixed bits are the decoder's. -/
theorem cmbBind : Obligations.CmbBind := by
  intro s s1 s2 imm op hs
  refine ⟨decode_of_encode_eq (encode_bindCmb s1 s2 op), ?_,
    fun h => runPacket_of_rejected hs (decode_bind_of_fixedBit h op)⟩
  split
  · next hlegal =>
    obtain ⟨k1, k2, rfl, rfl, hne⟩ := exists_units_of_legalBinding (by simpa [legalBinding, and_assoc] using hlegal)
    exact ⟨k1, k2, rfl, rfl, exec_bindCmb_of_ne hs hne op⟩
  · next hlegal =>
    have hillegal : legalBinding s1 s2 = false := by
      simpa [legalBinding, and_assoc, ← Bool.not_eq_true] using hlegal
    rw [exec_bindCmb_of_illegal hs hillegal, encode_bindCmb]
    rfl

end Sys2Proof.Machine
end

section
/-!
SUPPORT. The order of the checks (R90). The conditions on the packet that the fault rules R286 to R288 write are the
ones that lead to the decoder's outcomes; those of R289 and R282 are the checks an instruction makes on the state
(`StateChecks`), which every instruction is shown to make through the shell it is built from.
-/

namespace Sys2Proof.Machine

/-! ## The checks on the packet -/

/-- R286: the defined opcodes are those of the table. -/
theorem definedOp_eq (p : Packet) : definedOp p = (mnemonicOf (opField p.cw)).isSome := by
  have hcodes : [0x01, 0x02, 0x03, 0x04, 0x05, 0x06, 0x07, 0x08, 0x09, 0x0A, 0x10, 0x11, 0x12, 0x14, 0x15, 0x16, 0x20,
      0x21, 0x30] = allMnemonics.map fun m => (opcodeBits m).toNat := rfl
  rw [Bool.eq_iff_iff, definedOp, ← opField, hcodes, List.contains_iff_mem, List.mem_map, mnemonicOf,
    List.find?_isSome]
  simp only [beq_iff_eq, BitVec.toNat_inj]

theorem legalUnitNumbers_opcodeBits (m : Mnemonic) :
    legalUnitNumbers (opcodeBits m).toNat = (legalUnits m).map fun u => (unitBits u).toNat := by
  cases m <;> rfl

/-- R287: a legal pair is a unit of the table in the legal set of the opcode. -/
theorem legalPair_iff {p : Packet} {m : Mnemonic} (hm : mnemonicOf (opField p.cw) = some m) :
    legalPair p = true ↔ ∃ u ∈ legalUnits m, unitOf (unitField p.cw) = some u := by
  rw [legalPair, ← opField, ← unitField, ← mnemonicOf_eq_some_iff.mp hm, legalUnitNumbers_opcodeBits,
    List.contains_iff_mem, List.mem_map]
  simp only [unitOf_eq_some_iff, BitVec.toNat_inj]

section FieldError

variable (m : Mnemonic) (u : UnitName) (imm : Byte)

theorem usesNull_eq : [0x14, 0x15, 0x16].contains (opcodeBits m).toNat = usesNull m := by cases m <;> rfl

theorem usesByteOrder_eq (h : u ∈ legalUnits m) : ([0x20, 0x21].contains (opcodeBits m).toNat
    || decide ((opcodeBits m).toNat = 0x12 ∧ (unitBits u).toNat = 5)) = usesByteOrder m u := by
  revert h
  cases m <;> cases u <;> decide

/-- R87, R88, R261: what is wrong with an immediate, by the decoder and by `BIND` itself. -/
theorem immError_eq : (decide (imm ≠ 0#8 ∧ (opcodeBits m).toNat ≠ 0x03 ∧ (opcodeBits m).toNat ≠ 0x30)
    || (decide ((opcodeBits m).toNat = 0x30) && (imm.getLsbD 3 || imm.getLsbD 7
      || decide (5 < (imm.extractLsb' 0 3).toNat) || decide (5 < (imm.extractLsb' 4 3).toNat)
      || decide ((imm.extractLsb' 0 3).toNat = (imm.extractLsb' 4 3).toNat))))
    = (!immLegal m imm || (decide (m = .bind) && !legalBinding (sel1OfImm imm) (sel2OfImm imm))) := by
  cases m with
  | bind =>
    revert imm
    decide
  | _ => simp [opcodeBits, immLegal, Bool.beq_eq_decide_eq]

end FieldError

/-- R90, step 3: what the decoder calls a field error. -/
theorem not_fieldsLegal_eq (m : Mnemonic) (u : UnitName) (cw : Word32) : (!fieldsLegal m u cw) =
    (decide (z1Field cw ≠ 0#2) || decide (z0Field cw ≠ 0#8) || (nField cw && !usesNull m)
      || (eField cw && !usesByteOrder m u) || !immLegal m (immField cw)) := by
  simp [fieldsLegal, Bool.beq_eq_decide_eq, Bool.and_comm (nField cw), Bool.and_comm (eField cw)]

/-- R288: a legal pair has a field error where the decoder finds one, and where `BIND` rejects its selectors. -/
theorem fieldError_eq {p : Packet} {m : Mnemonic} {u : UnitName} (hm : mnemonicOf (opField p.cw) = some m)
    (hu : unitOf (unitField p.cw) = some u) (h : u ∈ legalUnits m) : fieldError p = (!fieldsLegal m u p.cw
      || (decide (m = .bind) && !legalBinding (sel1OfImm (immField p.cw)) (sel2OfImm (immField p.cw)))) := by
  have hop : p.cw.extractLsb' 24 8 = opcodeBits m := (mnemonicOf_eq_some_iff.mp hm).symm
  have hunit : p.cw.extractLsb' 20 4 = unitBits u := (unitOf_eq_some_iff.mp hu).symm
  rw [fieldError, hop, hunit, usesNull_eq, usesByteOrder_eq m u h, Bool.or_assoc, immError_eq, not_fieldsLegal_eq,
    ← Bool.or_assoc]
  rfl

/-- R261: an instruction is ill-formed where it is a `BIND` of an illegal pair. -/
theorem wellFormed_of_selectInstr {m : Mnemonic} {u : UnitName} {n e : Bool} {imm : Byte} {op : Operands} {i : Instr}
    (hi : selectInstr m u n e imm op = some i) :
    i.wellFormed = !(decide (m = .bind) && !legalBinding (sel1OfImm imm) (sel2OfImm imm)) := by
  unfold selectInstr at hi
  split at hi <;> cases hi <;> simp [Instr.wellFormed]

/-! ## The checks on the state -/

/-- R289: the contract commands to the packer. -/
def packs : Instr → Bool
  | .resetCmb _ | .updbCmb _ _ | .updrCmb _ | .getvCmb _ => true
  | _ => false

/-- R282: the address just after the last byte an instruction reads, 0 where it reads none. -/
def readEnd : Instr → Nat
  | .updrFnv32 op | .updrFnv64 op | .updrFnvj32 op | .updrFnvj64 op | .updrM3a op | .updrM3f op | .updrCmb op =>
    addrOf op + countOf op
  | .upda16M3a false op => addrOf op + arrayBytes 2 op
  | .upda32M3a false op => addrOf op + arrayBytes 4 op
  | .upda64M3a false op => addrOf op + arrayBytes 8 op
  | .rd32Bor _ op => addrOf op + 4
  | .rd64Bor _ op => addrOf op + 8
  | _ => 0

theorem needsBinding_commandWord (m : Mnemonic) (u : UnitName) (n e : Bool) (imm : Byte) (op : Operands) :
    needsBinding ⟨commandWord m u n e imm, op⟩ =
      decide ((unitBits u).toNat = 6 ∧ (opcodeBits m).toNat ≠ 0x30) := by
  rw [needsBinding, ← opField, ← unitField, opField_commandWord, unitField_commandWord]

theorem needsBinding_encode (i : Instr) : needsBinding (encode i) = packs i := by
  cases i <;> exact needsBinding_commandWord ..

/-- R282: the same address, from the mnemonic and the null flag. -/
def mnemonicReadEnd (m : Mnemonic) (n : Bool) (op : Operands) : Nat :=
  match m, n with
  | .updr, _ => addrOf op + countOf op
  | .rd32, _ => addrOf op + 4
  | .rd64, _ => addrOf op + 8
  | .upda16, false => addrOf op + arrayBytes 2 op
  | .upda32, false => addrOf op + arrayBytes 4 op
  | .upda64, false => addrOf op + arrayBytes 8 op
  | _, _ => 0

theorem rangeEnd_commandWord (m : Mnemonic) (u : UnitName) (n e : Bool) (imm : Byte) (op : Operands) :
    rangeEnd ⟨commandWord m u n e imm, op⟩ = mnemonicReadEnd m n op := by
  rw [rangeEnd, ← opField, ← nField, opField_commandWord, nField_commandWord]
  cases m <;> cases n <;> rfl

theorem rangeEnd_encode (i : Instr) : rangeEnd (encode i) = readEnd i := by
  cases i with
  | upda16M3a null | upda32M3a null | upda64M3a null => cases null <;> exact rangeEnd_commandWord ..
  | _ => exact rangeEnd_commandWord ..

/-- R90, steps 4 and 5: `r` is what a well-formed instruction answers on a live block, the first check that fails
deciding the fault. -/
def StateChecks (i : Instr) (s : State) (r : Result) : Prop :=
  if packs i = true ∧ s.u6.bound = false then r = .next (faultEntry .unbound (encode i) s)
  else if s.mem.size < readEnd i then r = .next (faultEntry .bounds (encode i) s)
  else ∃ t : State, r = .next t ∧ t.flt = s.flt

section StateChecks

variable {i : Instr} {s t : State}

theorem StateChecks.whenLive {f : State → Result} (hs : s.faulted = false) (h : StateChecks i s (f s)) :
    StateChecks i s (whenLive s f) := by
  rwa [whenLive_of_live hs]

theorem not_unbound (hbound : packs i = true → s.u6.bound = true) : ¬(packs i = true ∧ s.u6.bound = false) :=
  fun ⟨hpacks, hunbound⟩ => Bool.false_ne_true (hunbound.symm.trans (hbound hpacks))

theorem stateChecks_next (hread : readEnd i = 0) (hbound : packs i = true → s.u6.bound = true) (ht : t.flt = s.flt) :
    StateChecks i s (.next t) := by
  rw [StateChecks, hread, if_neg (not_unbound hbound), if_neg (Nat.not_lt_zero _)]
  exact ⟨t, rfl, ht⟩

theorem stateChecks_checkBounds {a n : Nat} {f : State → State} (hread : readEnd i = a + n)
    (hbound : packs i = true → s.u6.bound = true) (hf : (f s).flt = s.flt) :
    StateChecks i s (checkBounds (encode i) a n s f) := by
  rw [StateChecks, hread, if_neg (not_unbound hbound)]
  split
  · next hout => exact checkBounds_of_outOfBounds hout (encode i) f
  · next hin => exact ⟨f s, checkBounds_of_inBounds (by omega) (encode i) f, hf⟩

theorem stateChecks_checkBound {f : State → Result} (hpacks : packs i = true)
    (h : s.u6.bound = true → StateChecks i s (f s)) : StateChecks i s (checkBound (encode i) s f) := by
  cases hb : s.u6.bound
  · rw [StateChecks, if_pos ⟨hpacks, hb⟩]
    exact checkBound_of_unbound hb (encode i) f
  · rw [checkBound_of_bound hb]
    exact h hb

/-! ## The shells under the checks on the state -/

/-- An effect on a live block that no check on the state concerns. -/
theorem stateChecks_whenLive_next (hs : s.faulted = false) (hpacks : packs i = false) (hread : readEnd i = 0)
    {f : State → State} (hf : (f s).flt = s.flt) : StateChecks i s (whenLive s fun s => .next (f s)) :=
  .whenLive hs (stateChecks_next hread (by simp [hpacks]) hf)

section Shells

variable (hs : s.faulted = false) (hpacks : packs i = false)

include hs hpacks

theorem stateChecks_shellInit (hread : readEnd i = 0) (k : HashUnit) (op : Operands) :
    StateChecks i s (shellInit k op s) :=
  stateChecks_whenLive_next hs hpacks hread (by simp)

theorem stateChecks_shellReset (hread : readEnd i = 0) (k : HashUnit) : StateChecks i s (shellReset k s) :=
  stateChecks_whenLive_next hs hpacks hread (by simp)

theorem stateChecks_shellUpdb (hread : readEnd i = 0) (k : HashUnit) (b : Byte) : StateChecks i s (shellUpdb k b s) :=
  stateChecks_whenLive_next hs hpacks hread (by simp)

theorem stateChecks_shellGetv (hread : readEnd i = 0) (k : HashUnit) : StateChecks i s (shellGetv k s) :=
  stateChecks_whenLive_next (f := fun s => (valueUnit k s).2.writeR0 (valueUnit k s).1) hs hpacks hread (by simp)

theorem stateChecks_shellFinish (hread : readEnd i = 0) {write : Word64 → Word64 → State → State}
    (hwrite : ∀ lo hi t, (write lo hi t).flt = t.flt) : StateChecks i s (shellFinish write s) :=
  stateChecks_whenLive_next (f := fun s => write (m3fFinish s.u5).1.1 (m3fFinish s.u5).1.2 (s.setU5 (m3fFinish s.u5).2))
    hs hpacks hread (hwrite ..)

theorem stateChecks_shellUpdr (k : HashUnit) (hread : readEnd i = addrOf (encode i).ops + countOf (encode i).ops) :
    StateChecks i s (shellUpdr k (encode i) s) :=
  .whenLive hs (stateChecks_checkBounds hread (by simp [hpacks]) (by simp))

theorem stateChecks_shellArray {width : Nat} {feed : Memory → Nat → Nat → M3aRegs → M3aRegs} {null : Bool}
    (hread : readEnd i = if null then 0 else addrOf (encode i).ops + arrayBytes width (encode i).ops) :
    StateChecks i s (shellArray width feed null (encode i) s) := by
  have hbound : packs i = true → s.u6.bound = true := by simp [hpacks]
  refine .whenLive hs ?_
  cases null
  · exact stateChecks_checkBounds (f := fun s => s.setU4 _) hread hbound rfl
  · exact stateChecks_next hread hbound rfl

end Shells

/-! ## Every instruction under the checks on the state -/

section Instructions

variable (hs : s.faulted = false) (op : Operands)

include hs

theorem stateChecks_execResetCmb : StateChecks (.resetCmb op) s (execResetCmb op s) :=
  .whenLive hs (stateChecks_checkBound rfl fun hb => stateChecks_next rfl (fun _ => hb) (by simp))

theorem stateChecks_execUpdbCmb (b : Byte) : StateChecks (.updbCmb b op) s (execUpdbCmb b op s) :=
  .whenLive hs (stateChecks_checkBound rfl fun hb => stateChecks_next rfl (fun _ => hb) (by simp))

theorem stateChecks_execUpdrCmb : StateChecks (.updrCmb op) s (execUpdrCmb op s) :=
  .whenLive hs (stateChecks_checkBound rfl fun hb => stateChecks_checkBounds rfl (fun _ => hb) (by simp))

theorem stateChecks_execGetvCmb : StateChecks (.getvCmb op) s (execGetvCmb op s) :=
  .whenLive hs (stateChecks_checkBound rfl fun hb => stateChecks_next rfl (fun _ => hb) (by simp))

theorem stateChecks_execBindCmb {sel1 sel2 : BitVec 3} (h : legalBinding sel1 sel2 = true) :
    StateChecks (.bindCmb sel1 sel2 op) s (exec (.bindCmb sel1 sel2 op) s) := by
  obtain ⟨k1, k2, rfl, rfl, hne⟩ := exists_units_of_legalBinding h
  rw [exec_bindCmb_of_ne hs hne]
  exact stateChecks_next rfl nofun rfl

theorem stateChecks_execUpd16M3a : StateChecks (.upd16M3a op) s (execUpd16M3a op s) :=
  stateChecks_whenLive_next hs rfl rfl (State.setU4_flt ..)

theorem stateChecks_execUpd32M3a : StateChecks (.upd32M3a op) s (execUpd32M3a op s) :=
  stateChecks_whenLive_next hs rfl rfl (State.setU4_flt ..)

theorem stateChecks_execUpd64M3a : StateChecks (.upd64M3a op) s (execUpd64M3a op s) :=
  stateChecks_whenLive_next hs rfl rfl (State.setU4_flt ..)

theorem stateChecks_execUpd64M3f (e : Bool) : StateChecks (.upd64M3f e op) s (execUpd64M3f e op s) :=
  stateChecks_whenLive_next hs rfl rfl (State.setU5_flt ..)

theorem stateChecks_execGetvhM3f : StateChecks (.getvhM3f op) s (execGetvhM3f op s) :=
  stateChecks_shellFinish hs rfl rfl fun _ _ _ => State.writeR0_flt ..

theorem stateChecks_execGet128M3f : StateChecks (.get128M3f op) s (execGet128M3f op s) :=
  stateChecks_shellFinish hs rfl rfl fun _ _ _ => State.writeR01_flt ..

theorem stateChecks_execGetbeM3f : StateChecks (.getbeM3f op) s (execGetbeM3f op s) :=
  stateChecks_shellFinish hs rfl rfl fun _ _ _ => State.writeR01_flt ..

theorem stateChecks_execGetleM3f : StateChecks (.getleM3f op) s (execGetleM3f op s) :=
  stateChecks_shellFinish hs rfl rfl fun _ _ _ => State.writeR01_flt ..

theorem stateChecks_execGethexM3f : StateChecks (.gethexM3f op) s (execGethexM3f op s) :=
  stateChecks_shellFinish hs rfl rfl fun _ _ _ => State.writeString4_flt ..

theorem stateChecks_execRd32Bor (e : Bool) : StateChecks (.rd32Bor e op) s (execRd32Bor e op s) :=
  .whenLive hs (stateChecks_checkBounds rfl nofun rfl)

theorem stateChecks_execRd64Bor (e : Bool) : StateChecks (.rd64Bor e op) s (execRd64Bor e op s) :=
  .whenLive hs (stateChecks_checkBounds rfl nofun rfl)

end Instructions

/-- R90, steps 4 and 5: a well-formed instruction on a live block makes these checks and no other. -/
theorem exec_stateChecks (hs : s.faulted = false) (hi : i.wellFormed = true) : StateChecks i s (exec i s) := by
  cases i with
  | initFnv32 op | initFnv64 op | initFnvj32 op | initFnvj64 op | initM3a op | initM3f op =>
    exact stateChecks_shellInit hs rfl rfl _ op
  | resetFnv32 | resetFnv64 | resetFnvj32 | resetFnvj64 | resetM3a | resetM3f =>
    exact stateChecks_shellReset hs rfl rfl _
  | updbFnv32 b | updbFnv64 b | updbFnvj32 b | updbFnvj64 b | updbM3a b | updbM3f b =>
    exact stateChecks_shellUpdb hs rfl rfl _ b
  | updrFnv32 | updrFnv64 | updrFnvj32 | updrFnvj64 | updrM3a | updrM3f => exact stateChecks_shellUpdr hs rfl _ rfl
  | getvFnv32 | getvFnv64 | getvFnvj32 | getvFnvj64 | getvM3a | getvM3f => exact stateChecks_shellGetv hs rfl rfl _
  | getvhM3f op => exact stateChecks_execGetvhM3f hs op
  | get128M3f op => exact stateChecks_execGet128M3f hs op
  | getbeM3f op => exact stateChecks_execGetbeM3f hs op
  | getleM3f op => exact stateChecks_execGetleM3f hs op
  | gethexM3f op => exact stateChecks_execGethexM3f hs op
  | upd16M3a op => exact stateChecks_execUpd16M3a hs op
  | upd32M3a op => exact stateChecks_execUpd32M3a hs op
  | upd64M3a op => exact stateChecks_execUpd64M3a hs op
  | upd64M3f e op => exact stateChecks_execUpd64M3f hs op e
  | upda16M3a null | upda32M3a null | upda64M3a null => exact stateChecks_shellArray hs rfl (by cases null <;> rfl)
  | resetCmb op => exact stateChecks_execResetCmb hs op
  | updbCmb b op => exact stateChecks_execUpdbCmb hs op b
  | updrCmb op => exact stateChecks_execUpdrCmb hs op
  | getvCmb op => exact stateChecks_execGetvCmb hs op
  | bindCmb _ _ op => exact stateChecks_execBindCmb hs op hi
  | rd32Bor e op => exact stateChecks_execRd32Bor hs op e
  | rd64Bor e op => exact stateChecks_execRd64Bor hs op e

end StateChecks

/-! ## The order of the checks -/

/-- R261: an ill-formed instruction is a `BIND` of an illegal pair. -/
theorem exec_of_not_wellFormed {i : Instr} {s : State} (hs : s.faulted = false) (hi : i.wellFormed = false) :
    exec i s = .next (faultEntry .illegalField (encode i) s) := by
  cases i with
  | bindCmb sel1 sel2 op => exact exec_bindCmb_of_illegal hs hi op
  | _ => cases hi

/-- Settles O4, by what the decoder can answer: three of the outcomes are the checks on the packet, and the instruction
of an accepted packet makes the rest. -/
theorem decodeOrder : Obligations.DecodeOrder := by
  intro p s
  refine ⟨fun hs => runPacket_of_faulted hs p, fun hs => ?_⟩
  have hcase := decode_cases p
  generalize hd : decode p = outcome at hcase
  cases hcase with
  | badOp hm =>
    rw [if_pos (by rw [definedOp_eq, hm, Option.isSome_none])]
    exact runPacket_of_rejected hs hd
  | badUnit hm hu =>
    have hpair : legalPair p = false := Bool.eq_false_of_not_eq_true fun hlegal =>
      have ⟨u, hmem, hu'⟩ := (legalPair_iff hm).mp hlegal
      hu u hu' hmem
    rw [if_neg (by simp [definedOp_eq, hm]), if_pos hpair]
    exact runPacket_of_rejected hs hd
  | badField hm hu hlegal hfields =>
    have hpair : legalPair p = true := (legalPair_iff hm).mpr ⟨_, hlegal, hu⟩
    have herror : fieldError p = true := by
      rw [fieldError_eq hm hu hlegal, hfields]
      rfl
    rw [if_neg (by simp [definedOp_eq, hm]), if_neg (by simp [hpair]), if_pos herror]
    exact runPacket_of_rejected hs hd
  | @accepted m u i hm hu hi hfields =>
    have hlegal := mem_legalUnits_of_selectInstr hi
    have hpair : legalPair p = true := (legalPair_iff hm).mpr ⟨_, hlegal, hu⟩
    have herror : fieldError p = !i.wellFormed := by
      rw [fieldError_eq hm hu hlegal, hfields, wellFormed_of_selectInstr hi, Bool.not_not]
      rfl
    have hp : encode i = p := encodeOfDecode p i hd
    rw [if_neg (by simp [definedOp_eq, hm]), if_neg (by simp [hpair]), herror, runPacket_of_decoded hs hd, ← hp,
      needsBinding_encode, rangeEnd_encode]
    cases hwf : i.wellFormed
    · exact exec_of_not_wellFormed hs hwf
    · exact exec_stateChecks hs hwf

end Sys2Proof.Machine
end

section
/-!
SUPPORT. The byte-order reader (spec/40_byte_order_reader.md): the read functions of R110 as shifts and ORs, built up
one byte at a time in either order, and what the two instructions of the unit do on each side of the bound.
-/

namespace Sys2Proof.Machine

/-! ## Words from bytes (R13, R110) -/

theorem ofNat_256_mul (w x : Nat) : BitVec.ofNat w (256 * x) = BitVec.ofNat w x <<< 8 := by
  refine BitVec.eq_of_toNat_eq ?_
  rw [BitVec.toNat_shiftLeft, BitVec.toNat_ofNat, BitVec.toNat_ofNat, Nat.shiftLeft_eq, Nat.mod_mul_mod, Nat.mul_comm]

/-- A number with one more byte below it, as a word. -/
theorem ofNat_byteBelow (w x : Nat) (b : Byte) :
    BitVec.ofNat w (256 * x + b.toNat) = b.setWidth w ||| BitVec.ofNat w x <<< 8 := by
  have hdisjoint : 256 * x + b.toNat = 256 * x ||| b.toNat := Nat.two_pow_add_eq_or_of_lt b.isLt x
  rw [hdisjoint, BitVec.ofNat_or, ofNat_256_mul, BitVec.ofNat_toNat, BitVec.or_comm]

theorem ofNat_leNat_cons (w : Nat) (b : Byte) (bs : List Byte) :
    BitVec.ofNat w (leNat (b :: bs)) = b.setWidth w ||| BitVec.ofNat w (leNat bs) <<< 8 := by
  rw [← ofNat_byteBelow, leNat, Nat.add_comm]

theorem ofNat_beNat_concat (w : Nat) (bs : List Byte) (b : Byte) :
    BitVec.ofNat w (beNat (bs ++ [b])) = BitVec.ofNat w (beNat bs) <<< 8 ||| b.setWidth w := by
  rw [BitVec.or_comm, ← ofNat_byteBelow, beNat_concat, Nat.mul_comm]

theorem memRead_concat (m : Memory) (a n : Nat) : memRead m a (n + 1) = memRead m a n ++ [m.byteAt (a + n)] :=
  memRead_append m a n 1

/-- R13, little-endian: the first byte of a range is the low byte of its word. -/
theorem ofNat_leNat_memRead_succ (w : Nat) (m : Memory) (a n : Nat) : BitVec.ofNat w (leNat (memRead m a (n + 1))) =
    (m.byteAt a).setWidth w ||| BitVec.ofNat w (leNat (memRead m (a + 1) n)) <<< 8 := by
  rw [memRead_succ, ofNat_leNat_cons]

/-- R13, big-endian: the last byte of a range is the low byte of its word. -/
theorem ofNat_beNat_memRead_succ (w : Nat) (m : Memory) (a n : Nat) : BitVec.ofNat w (beNat (memRead m a (n + 1))) =
    BitVec.ofNat w (beNat (memRead m a n)) <<< 8 ||| (m.byteAt (a + n)).setWidth w := by
  rw [memRead_concat, ofNat_beNat_concat]

theorem ofNat_leNat_memRead_zero (w : Nat) (m : Memory) (a : Nat) :
    BitVec.ofNat w (leNat (memRead m a 0)) = 0#w := rfl

theorem ofNat_beNat_memRead_zero (w : Nat) (m : Memory) (a : Nat) :
    BitVec.ofNat w (beNat (memRead m a 0)) = 0#w := rfl

theorem rd32LE_eq_or (m : Memory) (a : Nat) : rd32LE m a = (m.byteAt a).setWidth 32
    ||| (m.byteAt (a + 1)).setWidth 32 <<< 8 ||| (m.byteAt (a + 2)).setWidth 32 <<< 16
    ||| (m.byteAt (a + 3)).setWidth 32 <<< 24 := by
  simp only [rd32LE, ofNat_leNat_memRead_succ, ofNat_leNat_memRead_zero, BitVec.shiftLeft_or_distrib,
    ← BitVec.shiftLeft_add, BitVec.zero_shiftLeft, BitVec.or_zero, BitVec.or_assoc, Nat.add_assoc, Nat.reduceAdd]

theorem rd32BE_eq_or (m : Memory) (a : Nat) : rd32BE m a = (m.byteAt a).setWidth 32 <<< 24
    ||| (m.byteAt (a + 1)).setWidth 32 <<< 16 ||| (m.byteAt (a + 2)).setWidth 32 <<< 8
    ||| (m.byteAt (a + 3)).setWidth 32 := by
  simp only [rd32BE, ofNat_beNat_memRead_succ, ofNat_beNat_memRead_zero, BitVec.shiftLeft_or_distrib,
    ← BitVec.shiftLeft_add, BitVec.zero_shiftLeft, BitVec.zero_or, Nat.add_zero, Nat.reduceAdd]

theorem rd64LE_eq_or (m : Memory) (a : Nat) : rd64LE m a = (m.byteAt a).setWidth 64
    ||| (m.byteAt (a + 1)).setWidth 64 <<< 8 ||| (m.byteAt (a + 2)).setWidth 64 <<< 16
    ||| (m.byteAt (a + 3)).setWidth 64 <<< 24 ||| (m.byteAt (a + 4)).setWidth 64 <<< 32
    ||| (m.byteAt (a + 5)).setWidth 64 <<< 40 ||| (m.byteAt (a + 6)).setWidth 64 <<< 48
    ||| (m.byteAt (a + 7)).setWidth 64 <<< 56 := by
  simp only [rd64LE, ofNat_leNat_memRead_succ, ofNat_leNat_memRead_zero, BitVec.shiftLeft_or_distrib,
    ← BitVec.shiftLeft_add, BitVec.zero_shiftLeft, BitVec.or_zero, BitVec.or_assoc, Nat.add_assoc, Nat.reduceAdd]

theorem rd64BE_eq_or (m : Memory) (a : Nat) : rd64BE m a = (m.byteAt a).setWidth 64 <<< 56
    ||| (m.byteAt (a + 1)).setWidth 64 <<< 48 ||| (m.byteAt (a + 2)).setWidth 64 <<< 40
    ||| (m.byteAt (a + 3)).setWidth 64 <<< 32 ||| (m.byteAt (a + 4)).setWidth 64 <<< 24
    ||| (m.byteAt (a + 5)).setWidth 64 <<< 16 ||| (m.byteAt (a + 6)).setWidth 64 <<< 8
    ||| (m.byteAt (a + 7)).setWidth 64 := by
  simp only [rd64BE, ofNat_beNat_memRead_succ, ofNat_beNat_memRead_zero, BitVec.shiftLeft_or_distrib,
    ← BitVec.shiftLeft_add, BitVec.zero_shiftLeft, BitVec.zero_or, Nat.add_zero, Nat.reduceAdd]

/-! ## The two instructions (R112, R113) -/

theorem encode_rd32Bor (e : Bool) (op : Operands) : encode (.rd32Bor e op) =
    ⟨0x20700000#32 ||| (BitVec.ofBool e).setWidth 32 <<< 16, op⟩ := by
  cases e <;> rfl

theorem encode_rd64Bor (e : Bool) (op : Operands) : encode (.rd64Bor e op) =
    ⟨0x21700000#32 ||| (BitVec.ofBool e).setWidth 32 <<< 16, op⟩ := by
  cases e <;> rfl

theorem exec_rd32Bor (e : Bool) (op : Operands) (s : State) : exec (.rd32Bor e op) s = execRd32Bor e op s := rfl

theorem exec_rd64Bor (e : Bool) (op : Operands) (s : State) : exec (.rd64Bor e op) s = execRd64Bor e op s := rfl

section
variable {s : State} (hs : s.faulted = false) (e : Bool) (op : Operands)
include hs

theorem exec_rd32Bor_of_live : exec (.rd32Bor e op) s = checkBounds (encode (.rd32Bor e op)) (addrOf op) 4 s fun s =>
    s.writeR0 ((if e then rd32BE s.mem (addrOf op) else rd32LE s.mem (addrOf op)).setWidth 64) := by
  rw [exec_rd32Bor, execRd32Bor, whenLive_of_live hs]

theorem exec_rd64Bor_of_live : exec (.rd64Bor e op) s = checkBounds (encode (.rd64Bor e op)) (addrOf op) 8 s fun s =>
    s.writeR0 (if e then rd64BE s.mem (addrOf op) else rd64LE s.mem (addrOf op)) := by
  rw [exec_rd64Bor, execRd64Bor, whenLive_of_live hs]

end

/-- Settles O46: the read functions are the shifted bytes, and each instruction is a bounds check before one of them. -/
theorem borReads : Obligations.BorReads := by
  intro s e op hs le32 be32 le64 be64 cw32 cw64
  have hle32 : rd32LE s.mem (addrOf op) = le32 := rd32LE_eq_or ..
  have hbe32 : rd32BE s.mem (addrOf op) = be32 := rd32BE_eq_or ..
  have hle64 : rd64LE s.mem (addrOf op) = le64 := rd64LE_eq_or ..
  have hbe64 : rd64BE s.mem (addrOf op) = be64 := rd64BE_eq_or ..
  have hcw32 : encode (.rd32Bor e op) = ⟨cw32, op⟩ := encode_rd32Bor e op
  have hcw64 : encode (.rd64Bor e op) = ⟨cw64, op⟩ := encode_rd64Bor e op
  refine ⟨hle32, hbe32, hle64, hbe64, decode_of_encode_eq hcw32, decode_of_encode_eq hcw64, ?_⟩
  rw [exec_rd32Bor_of_live hs, exec_rd64Bor_of_live hs, hcw32, hcw64, ← hle32, ← hbe32, ← hle64, ← hbe64]
  exact ⟨fun h => checkBounds_of_inBounds h _ _, fun h => checkBounds_of_outOfBounds h _ _,
    fun h => checkBounds_of_inBounds h _ _, fun h => checkBounds_of_outOfBounds h _ _⟩

end Sys2Proof.Machine
end

section
/-!
SUPPORT. The contract of the hashing units (spec/41_checksum_contract.md): splitting a stream into update commands,
reading a value, and construction again from the stored seed.
-/

namespace Sys2Proof.Machine

/-! ## Ways of delivering bytes (R125, R128) -/

theorem faulted_congr {s t : State} (h : t.flt = s.flt) : t.faulted = s.faulted := by
  rw [State.faulted, h, State.faulted]

/-- R125: what `UPDR` does on a block without a fault, over a range inside the buffer. -/
theorem exec_updrOf_of_inBounds {s : State} (hs : s.faulted = false) {op : Operands}
    (h : addrOf op + countOf op ≤ s.mem.size) (k : HashUnit) :
    exec (updrOf k op) s = .next (bytesUnit k (memRead s.mem (addrOf op) (countOf op)) s) := by
  have hshell : exec (updrOf k op) s = shellUpdr k (encode (updrOf k op)) s := by cases k <;> rfl
  have hops : (encode (updrOf k op)).ops = op := by cases k <;> rfl
  rw [hshell, shellUpdr, whenLive_of_live hs, hops, checkBounds_of_inBounds h]

/-- The `FINV <- 0` that ends a range update of unit 5 does not show outside the cache. -/
theorem forgetCache_bytesUnit (k : HashUnit) (bs : List Byte) (s : State) :
    forgetCache (bytesUnit k bs s) = forgetCache (runUpdates (bs.map (.byte k)) s) := by
  rw [← runUpdates_bytesUpdates]
  unfold bytesUpdates
  rw [runUpdates_append]
  cases k <;> rfl

theorem addrOf_add_countOf_le_of_fits {m : Memory} {op : Operands} (h : (Piece.range op).fits m = true) :
    addrOf op + countOf op ≤ m.size := of_decide_eq_true h

/-- The command of one piece is, outside the cache, the single bytes that the piece delivers. -/
theorem exec_toUnit {k : HashUnit} {s : State} {p : Piece} (hs : s.faulted = false) (hp : p.fits s.mem = true) :
    ∃ t : State, exec (p.toUnit k) s = .next t ∧ t.faulted = false
      ∧ forgetCache t = forgetCache (runUpdates ((p.bytes s.mem).map (.byte k)) s) := by
  cases p with
  | byte b => exact ⟨_, exec_updbOf_of_live hs k b _, (byteUnit_faulted k b s).trans hs, rfl⟩
  | range op =>
    exact ⟨_, exec_updrOf_of_inBounds hs (addrOf_add_countOf_le_of_fits hp) k,
      (faulted_congr (bytesUnit_flt k _ s)).trans hs, forgetCache_bytesUnit k _ s⟩

/-- So are the commands of a list of pieces. -/
theorem execAll_toUnit {k : HashUnit} {ps : List Piece} {s : State} (hs : s.faulted = false)
    (hps : ∀ p ∈ ps, p.fits s.mem = true) :
    ∃ t : State, execAll (ps.map (Piece.toUnit k)) s = .next t
      ∧ forgetCache t = forgetCache (runUpdates ((ps.flatMap (Piece.bytes s.mem)).map (.byte k)) s) := by
  induction ps generalizing s with
  | nil => exact ⟨s, rfl, rfl⟩
  | cons p ps ih =>
    obtain ⟨s₁, hexec, hlive, hcache⟩ := exec_toUnit (k := k) hs (hps p (.head ps))
    have hmem : s₁.mem = s.mem := exec_mem hexec
    obtain ⟨t, hrest, ht⟩ := ih hlive fun q hq => hmem ▸ hps q (.tail p hq)
    refine ⟨t, (execAll_cons_of_next hexec _).trans hrest, ?_⟩
    rw [ht, hmem, List.flatMap_cons, List.map_append, runUpdates_append]
    exact runUpdates_forgetCache _ hcache

/-- Settles O50: outside the cache both ways are the same single bytes. -/
theorem chunkingInvariance : Obligations.ChunkingInvariance := by
  intro k s ps qs hs hfits hbytes
  obtain ⟨hps, hqs⟩ := List.forall_mem_append.1 hfits
  obtain ⟨t, hexec, ht⟩ := execAll_toUnit (k := k) hs hps
  obtain ⟨t', hexec', ht'⟩ := execAll_toUnit (k := k) hs hqs
  exact ⟨t, t', hexec, hexec', by rw [ht, ht', hbytes]⟩

/-! ## Filling the cache (R226) -/

/-- What computing values does to the state: it fills the cache of unit 5 or not. -/
def fillIf (fill : Bool) (s : State) : State := if fill then Update.fillCache.run s else s

theorem valueUnit_snd (k : HashUnit) (s : State) : (valueUnit k s).2 = fillIf (decide (k = .m3f)) s := by
  cases k <;> rfl

theorem m3fFinish_snd_finv (u : M3fRegs) : (m3fFinish u).2.finv = true := by
  cases hv : u.finv
  · rw [m3fFinish_of_invalid hv]
  · rw [m3fFinish_of_valid hv, hv]

theorem m3fFinish_snd_again (u : M3fRegs) : (m3fFinish (m3fFinish u).2).2 = (m3fFinish u).2 := by
  rw [m3fFinish_of_valid (m3fFinish_snd_finv u)]

/-- A cache filled twice is filled once. -/
theorem fillIf_fillIf (fill fill' : Bool) (s : State) : fillIf fill' (fillIf fill s) = fillIf (fill || fill') s := by
  cases fill with
  | false => rfl
  | true => cases fill' with
    | false => rfl
    | true => exact congrArg s.setU5 (m3fFinish_snd_again s.u5)

theorem fillIf_setRes (fill : Bool) (s : State) (x : ResultRegs) :
    fillIf fill (s.setRes x) = (fillIf fill s).setRes x := by cases fill <;> rfl

theorem fillIf_res (fill : Bool) (s : State) : (fillIf fill s).res = s.res := by cases fill <;> rfl

theorem sameReads_fillIf (fill : Bool) (s : State) : SameReads s (fillIf fill s) := by
  cases fill with
  | false => exact .refl s
  | true => exact sameReads_valueUnit .m3f s

theorem forgetCache_fillIf (fill : Bool) (s : State) : forgetCache (fillIf fill s) = forgetCache s := by
  cases fill with
  | false => rfl
  | true => exact forgetCache_finish s

theorem SameReads.setRes {s t : State} (h : SameReads s t) (x : ResultRegs) : SameReads s (t.setRes x) := by
  obtain ⟨hflt, h0, h1, h2, h3, h4, h6, hmem, hlanes⟩ := h
  exact ⟨hflt, h0, h1, h2, h3, h4, h6, hmem, hlanes⟩

/-! ## Commands that read a value (R126, R127) -/

theorem exec_getvOf (k : HashUnit) (op : Operands) : exec (getvOf k op) = shellGetv k := by cases k <;> rfl

/-- The updates that write result registers. -/
def Update.writesResult : Update → Bool
  | .writeLow _ | .writePair _ _ | .writeAll _ => true
  | _ => false

theorem Update.run_of_writesResult {w : Update} (hw : w.writesResult = true) (s : State) :
    w.run s = s.setRes (w.onRes s.res) := by
  cases w with
  | writeLow v => rfl
  | writePair v w => rfl
  | writeAll str => rfl
  | _ => exact absurd hw Bool.false_ne_true

theorem Update.onRes_onRes (w : Update) (x : ResultRegs) : w.onRes (w.onRes x) = w.onRes x := by
  cases w <;> rfl

/-- From every state that reads like `s`, the effect fills the cache or not and writes the same results. -/
def ReadsValue (s : State) (f : State → Result) : Prop :=
  ∃ (fill : Bool) (w : Update), w.writesResult = true ∧ ∀ t, SameReads s t → f t = .next (w.run (fillIf fill t))

section ReadsValue

variable {s : State}

/-- The second reading finds a state that reads like the first one's, and so writes the same results again. -/
theorem ReadsValue.again {f : State → Result} (h : ReadsValue s f) :
    ∃ t : State, f s = .next t ∧ f t = .next t ∧ forgetCache (t.setRes s.res) = forgetCache s := by
  obtain ⟨fill, w, hw, hf⟩ := h
  have ht : w.run (fillIf fill s) = (fillIf fill s).setRes (w.onRes s.res) := by
    rw [Update.run_of_writesResult hw, fillIf_res]
  refine ⟨_, ht ▸ hf s (.refl s), ?_, congrArg (·.setRes s.res) (forgetCache_fillIf fill s)⟩
  rw [hf _ ((sameReads_fillIf fill s).setRes _), Update.run_of_writesResult hw, fillIf_setRes, fillIf_fillIf,
    Bool.or_self, State.setRes_setRes, State.setRes_res, Update.onRes_onRes]

theorem ReadsValue.whenLive {f : State → Result} (hs : s.faulted = false) (h : ReadsValue s f) :
    ReadsValue s fun t => whenLive t f := by
  obtain ⟨fill, w, hw, hf⟩ := h
  exact ⟨fill, w, hw, fun t ht => (whenLive_of_live (ht.faulted.trans hs) f).trans (hf t ht)⟩

theorem ReadsValue.checkBound {f : State → Result} (hb : s.u6.bound = true) (h : ReadsValue s f) (p : Packet) :
    ReadsValue s fun t => checkBound p t f := by
  obtain ⟨fill, w, hw, hf⟩ := h
  exact ⟨fill, w, hw, fun t ht => (checkBound_of_bound (by rw [ht.u6, hb]) p f).trans (hf t ht)⟩

theorem readsValue_shellGetv (hs : s.faulted = false) (k : HashUnit) : ReadsValue s (shellGetv k) :=
  .whenLive hs ⟨decide (k = .m3f), .writeLow (valueUnit k s).1, rfl, fun t ht => by
    beta_reduce; rw [ht.value, valueUnit_snd, Update.run]⟩

/-- A value command of unit 5, whose write of result registers is one update. -/
theorem readsValue_shellFinish (hs : s.faulted = false) {write : Word64 → Word64 → State → State}
    (u : Word64 → Word64 → Update) (hu : ∀ lo hi, (u lo hi).writesResult = true)
    (hwrite : ∀ lo hi t, write lo hi t = (u lo hi).run t) : ReadsValue s (shellFinish write) :=
  .whenLive hs ⟨true, u (m3fFinish s.u5).1.1 (m3fFinish s.u5).1.2, hu _ _, fun t ht => by
    beta_reduce; rw [hwrite, ht.lanes]; rfl⟩

theorem readsValue_execGetvCmb (hs : s.faulted = false) (hb : s.u6.bound = true) (op : Operands) :
    ReadsValue s (execGetvCmb op) := by
  refine .whenLive hs (.checkBound hb ⟨decide (s.u6.sel1 = .m3f) || decide (s.u6.sel2 = .m3f),
    .writeLow (packValues (valueUnit s.u6.sel1 s).1 (valueUnit s.u6.sel2 s).1), rfl, fun t ht => ?_⟩ _)
  dsimp only
  rw [ht.u6, (sameReads_valueUnit s.u6.sel1 t).value, ht.value, ht.value, valueUnit_snd, valueUnit_snd, fillIf_fillIf,
    Update.run]

theorem readsValue_exec_getvOf (hs : s.faulted = false) (k : HashUnit) (op : Operands) :
    ReadsValue s (exec (getvOf k op)) := exec_getvOf k op ▸ readsValue_shellGetv hs k

/-- The value commands of unit 5 alone (R234 to R239). -/
theorem readsValue_exec_of_mem (hs : s.faulted = false) {i : Instr} {op : Operands}
    (hi : i ∈ [.getvhM3f op, .get128M3f op, .getbeM3f op, .getleM3f op, .gethexM3f op]) :
    ReadsValue s (exec i) := by
  simp only [List.mem_cons, List.not_mem_nil, or_false] at hi
  obtain rfl | rfl | rfl | rfl | rfl := hi
  · exact readsValue_shellFinish hs (fun _ hi => .writeLow hi) (fun _ _ => rfl) fun _ _ _ => rfl
  · exact readsValue_shellFinish hs .writePair (fun _ _ => rfl) fun _ _ _ => rfl
  · exact readsValue_shellFinish hs
      (fun lo hi => .writePair (packedWord (stringBE lo hi) 0) (packedWord (stringBE lo hi) 1))
      (fun _ _ => rfl) fun _ _ _ => rfl
  · exact readsValue_shellFinish hs
      (fun lo hi => .writePair (packedWord (stringLE lo hi) 0) (packedWord (stringLE lo hi) 1))
      (fun _ _ => rfl) fun _ _ _ => rfl
  · exact readsValue_shellFinish hs (fun lo hi => .writeAll (hexString lo hi)) (fun _ _ => rfl) fun _ _ _ => rfl

end ReadsValue

/-- Settles O53: each of these commands fills the cache or not and writes results that a second reading repeats. -/
theorem valueCommandsDoNotMutate : Obligations.ValueCommandsDoNotMutate := by
  intro s op i hs hi
  suffices h : ReadsValue s (exec i) from h.again
  obtain ⟨k, rfl⟩ | hmem | ⟨rfl, hb⟩ := hi
  · exact readsValue_exec_getvOf hs k op
  · exact readsValue_exec_of_mem hs hmem
  · exact readsValue_execGetvCmb hs hb op

/-! ## Construction again (R122, R123, R129) -/

/-- R123: what `RESET` does on a block without a fault. -/
theorem exec_resetOf_of_live {s : State} (h : s.faulted = false) (k : HashUnit) (op : Operands) :
    exec (resetOf k op) s = .next (resetUnit k s) := by
  have hshell : exec (resetOf k op) s = shellReset k s := by cases k <;> rfl
  exact hshell.trans (whenLive_of_live h _)

/-- R126: what `GETV` does on a block without a fault. -/
theorem exec_getvOf_of_live {s : State} (h : s.faulted = false) (k : HashUnit) (op : Operands) :
    exec (getvOf k op) s = .next ((valueUnit k s).2.writeR0 (valueUnit k s).1) :=
  (congrFun (exec_getvOf k op) s).trans (whenLive_of_live h _)

theorem seed32_setWidth (x : Word32) (b : Word64) : seed32 ⟨x.setWidth 64, b⟩ = x := by
  simp [seed32]

/-- The stored seed is what `INIT` would store again. -/
theorem seedUnit_seedOf (k : HashUnit) (s : State) (b : Word64) : seedUnit k ⟨seedOf k s, b⟩ s = s := by
  cases k <;> simp only [seedUnit, seedOf, seed32_setWidth] <;> rfl

/-- `INIT` in one state with the seed stored in another stores that seed. -/
theorem seedOf_seedUnit_seedOf (k : HashUnit) (s t : State) (b : Word64) :
    seedOf k (seedUnit k ⟨seedOf k s, b⟩ t) = seedOf k s := by
  cases k
  case fnv64 | fnvj64 => rfl
  all_goals exact congrArg (BitVec.setWidth 64) (seed32_setWidth _ b)

/-! Construction overwrites every register of a unit but its seed, and the lanes of an invalid cache. -/

theorem fnv32Reset_congr {u v : Fnv32Regs} (h : u.seed = v.seed) : fnv32Reset u = fnv32Reset v := by
  simp only [fnv32Reset, h]

theorem fnv64Reset_congr {u v : Fnv64Regs} (h : u.seed = v.seed) : fnv64Reset u = fnv64Reset v := by
  simp only [fnv64Reset, h]

theorem fnvj32Reset_congr {u v : Fnvj32Regs} (h : u.seed = v.seed) : fnvj32Reset u = fnvj32Reset v := by
  simp only [fnvj32Reset, h]

theorem fnvj64Reset_congr {u v : Fnvj64Regs} (h : u.seed = v.seed) : fnvj64Reset u = fnvj64Reset v := by
  simp only [fnvj64Reset, h]

theorem m3aReset_congr {u v : M3aRegs} (h : u.seed = v.seed) : m3aReset u = m3aReset v := by
  simp only [m3aReset, h]

theorem m3fFinish_m3fReset_congr {u v : M3fRegs} (h : u.seed = v.seed) :
    (m3fFinish (m3fReset u)).1 = (m3fFinish (m3fReset v)).1 := by
  rw [m3fFinish_of_invalid (m3fReset_finv u), m3fFinish_of_invalid (m3fReset_finv v)]
  apply m3fFinal_congr <;> simp [h]

/-- The value right after construction is a function of the seed. -/
theorem value_resetUnit_congr {k : HashUnit} {s t : State} (h : seedOf k s = seedOf k t) :
    (valueUnit k (resetUnit k s)).1 = (valueUnit k (resetUnit k t)).1 := by
  cases k with
  | fnv32 => exact congrArg fnv32Value (fnv32Reset_congr (setWidth64_inj h))
  | fnv64 => exact congrArg fnv64Value (fnv64Reset_congr h)
  | fnvj32 => exact congrArg fnvj32Value (fnvj32Reset_congr (setWidth64_inj h))
  | fnvj64 => exact congrArg fnvj64Value (fnvj64Reset_congr h)
  | m3a => exact congrArg m3aValue (m3aReset_congr (setWidth64_inj h))
  | m3f => exact congrArg (fun lanes : Word64 × Word64 => lanes.1) (m3fFinish_m3fReset_congr (setWidth64_inj h))

theorem execAll_getvOf_after {i : Instr} {k : HashUnit} {s t : State} (h : exec i s = .next t)
    (ht : t.faulted = false) (op : Operands) :
    execAll [i, getvOf k op] s = .next ((valueUnit k t).2.writeR0 (valueUnit k t).1) := by
  rw [execAll_cons_of_next h, execAll_cons_of_next (exec_getvOf_of_live ht k op), execAll]

/-- Settles O54: construction reads the seed only, and `INIT` with the stored seed stores nothing new. -/
theorem resetIdempotence : Obligations.ResetIdempotence := by
  intro k s t0 op b hs ht0
  have hreset := exec_resetOf_of_live hs k op
  have hlive : (resetUnit k s).faulted = false := (faulted_congr (resetUnit_flt k s)).trans hs
  have hlive0 : (resetUnit k (seedUnit k ⟨seedOf k s, b⟩ t0)).faulted = false :=
    (faulted_congr ((resetUnit_flt k _).trans (seedUnit_flt k _ t0))).trans ht0
  refine ⟨⟨_, hreset, ?_⟩, _, _, execAll_getvOf_after hreset hlive op,
    execAll_getvOf_after (exec_initOf_of_live ht0 k _) hlive0 op, ?_⟩
  · rw [exec_initOf_of_live hs, seedUnit_seedOf]
  · exact value_resetUnit_congr (seedOf_seedUnit_seedOf k s t0 b).symm

end Sys2Proof.Machine
end

section
/-!
SUPPORT. Units 0 and 1, FNV32 and FNV64 (spec/42_fnv.md): the registers their procedures leave, a range of bytes as a
fold over the indices of the buffer, and the range update on each side of the bound.
-/

namespace Sys2Proof.Machine

/-! ## Range updates (R125) -/

/-- R125: a range update on a block without a fault, over a range that ends beyond the buffer. -/
theorem exec_updrOf_of_outOfBounds {s : State} (hs : s.faulted = false) {op : Operands}
    (h : s.mem.size < addrOf op + countOf op) (k : HashUnit) :
    exec (updrOf k op) s = .next (faultEntry .bounds (encode (updrOf k op)) s) := by
  have hshell : exec (updrOf k op) s = shellUpdr k (encode (updrOf k op)) s := by cases k <;> rfl
  have hops : (encode (updrOf k op)).ops = op := by cases k <;> rfl
  rw [hshell, shellUpdr, whenLive_of_live hs, hops, checkBounds_of_outOfBounds h]

/-- A fold over the bytes of a range goes through the addresses of the range in order. -/
theorem foldl_memRead {α : Type} (f : α → Byte → α) (x : α) (m : Memory) (a n : Nat) :
    (memRead m a n).foldl f x = (List.range n).foldl (fun x i => f x (m.byteAt (a + i))) x := by
  rw [memRead_eq_map, List.foldl_map]

/-! ## The registers after the procedures (R140, R141, R148, R149) -/

theorem fnv32Reset_eq (u : Fnv32Regs) : fnv32Reset u = { u with acc := 0x811C9DC5#32 ^^^ u.seed } := by
  rw [fnv32Reset, fnv32Init]

theorem fnv64Reset_eq (u : Fnv64Regs) : fnv64Reset u = { u with acc := 0xCBF29CE484222325#64 ^^^ u.seed } := by
  rw [fnv64Reset, fnv64Init]

theorem fnv32Byte_eq (b : Byte) (u : Fnv32Regs) :
    fnv32Byte b u = { u with acc := (u.acc ^^^ b.setWidth 32) * 0x01000193#32 } := by
  rw [fnv32Byte, fnv32Prime]

theorem fnv64Byte_eq (b : Byte) (u : Fnv64Regs) :
    fnv64Byte b u = { u with acc := (u.acc ^^^ b.setWidth 64) * 0x00000100000001B3#64 } := by
  rw [fnv64Byte, fnv64Prime]

/-- Bytes change the accumulator of unit 0 only, so a run of them is a fold over the accumulator. -/
theorem foldl_fnv32Byte (bs : List Byte) (u : Fnv32Regs) : bs.foldl (fun u b => fnv32Byte b u) u =
    { u with acc := bs.foldl (fun acc b => (acc ^^^ b.setWidth 32) * 0x01000193#32) u.acc } :=
  List.foldl_hom (fun acc => { u with acc := acc }) fun acc b => fnv32Byte_eq b { u with acc := acc }

/-- Bytes change the accumulator of unit 1 only, so a run of them is a fold over the accumulator. -/
theorem foldl_fnv64Byte (bs : List Byte) (u : Fnv64Regs) : bs.foldl (fun u b => fnv64Byte b u) u =
    { u with acc := bs.foldl (fun acc b => (acc ^^^ b.setWidth 64) * 0x00000100000001B3#64) u.acc } :=
  List.foldl_hom (fun acc => { u with acc := acc }) fun acc b => fnv64Byte_eq b { u with acc := acc }

/-! ## The units after a command -/

theorem resetUnit_fnv32 (s : State) :
    resetUnit .fnv32 s = s.setU0 { s.u0 with acc := 0x811C9DC5#32 ^^^ s.u0.seed } :=
  congrArg s.setU0 (fnv32Reset_eq s.u0)

theorem resetUnit_fnv64 (s : State) :
    resetUnit .fnv64 s = s.setU1 { s.u1 with acc := 0xCBF29CE484222325#64 ^^^ s.u1.seed } :=
  congrArg s.setU1 (fnv64Reset_eq s.u1)

theorem byteUnit_fnv32 (b : Byte) (s : State) :
    byteUnit .fnv32 b s = s.setU0 { s.u0 with acc := (s.u0.acc ^^^ b.setWidth 32) * 0x01000193#32 } :=
  congrArg s.setU0 (fnv32Byte_eq b s.u0)

theorem byteUnit_fnv64 (b : Byte) (s : State) :
    byteUnit .fnv64 b s = s.setU1 { s.u1 with acc := (s.u1.acc ^^^ b.setWidth 64) * 0x00000100000001B3#64 } :=
  congrArg s.setU1 (fnv64Byte_eq b s.u1)

theorem bytesUnit_fnv32_memRead (m : Memory) (a n : Nat) (s : State) : bytesUnit .fnv32 (memRead m a n) s =
    s.setU0 { s.u0 with
      acc := (List.range n).foldl
        (fun acc i => (acc ^^^ (m.byteAt (a + i)).setWidth 32) * 0x01000193#32) s.u0.acc } := by
  rw [bytesUnit, foldl_fnv32Byte, foldl_memRead]

theorem bytesUnit_fnv64_memRead (m : Memory) (a n : Nat) (s : State) : bytesUnit .fnv64 (memRead m a n) s =
    s.setU1 { s.u1 with
      acc := (List.range n).foldl
        (fun acc i => (acc ^^^ (m.byteAt (a + i)).setWidth 64) * 0x00000100000001B3#64) s.u1.acc } := by
  rw [bytesUnit, foldl_fnv64Byte, foldl_memRead]

/-! ## The claims -/

/-- Settles O24: each word is the encoding of its instruction, and a range is a fold of the one-byte update. -/
theorem fnv32Updates : Obligations.Fnv32Updates := by
  intro s b op hs
  have hbyte := exec_updbOf_of_live hs .fnv32 b op
  rw [byteUnit_fnv32] at hbyte
  refine ⟨decode_of_encode_eq rfl, hbyte, decode_of_encode_eq rfl, fun hin => ?_, fun hout => ?_⟩
  · have hrange := exec_updrOf_of_inBounds hs hin .fnv32
    rwa [bytesUnit_fnv32_memRead] at hrange
  · exact exec_updrOf_of_outOfBounds hs hout .fnv32

/-- Settles O26: each word is the encoding of its instruction, and a range is a fold of the one-byte update. -/
theorem fnv64Updates : Obligations.Fnv64Updates := by
  intro s b op hs
  have hbyte := exec_updbOf_of_live hs .fnv64 b op
  rw [byteUnit_fnv64] at hbyte
  refine ⟨decode_of_encode_eq rfl, hbyte, decode_of_encode_eq rfl, fun hin => ?_, fun hout => ?_⟩
  · have hrange := exec_updrOf_of_inBounds hs hin .fnv64
    rwa [bytesUnit_fnv64_memRead] at hrange
  · exact exec_updrOf_of_outOfBounds hs hout .fnv64

/-- Settles O23: construction is the seed and then the accumulator from it; the value is the accumulator. -/
theorem fnv32Construction : Obligations.Fnv32Construction := by
  intro s op hs
  have hinit := exec_initOf_of_live hs .fnv32 op
  have hreset := exec_resetOf_of_live hs .fnv32 op
  rw [resetUnit_fnv32] at hinit hreset
  exact ⟨decode_of_encode_eq rfl, hinit, decode_of_encode_eq rfl, hreset, decode_of_encode_eq rfl,
    exec_getvOf_of_live hs .fnv32 op⟩

/-- Settles O25: construction is the seed and then the accumulator from it; the value is the accumulator. -/
theorem fnv64Construction : Obligations.Fnv64Construction := by
  intro s op hs
  have hinit := exec_initOf_of_live hs .fnv64 op
  have hreset := exec_resetOf_of_live hs .fnv64 op
  rw [resetUnit_fnv64] at hinit hreset
  exact ⟨decode_of_encode_eq rfl, hinit, decode_of_encode_eq rfl, hreset, decode_of_encode_eq rfl,
    exec_getvOf_of_live hs .fnv64 op⟩

end Sys2Proof.Machine
end

section
/-!
SUPPORT. Units 2 and 3, FNVJ32 and FNVJ64 (spec/43_fnvj.md): the registers their procedures leave with the constants of
R9 written out, and construction, updates and values as commands.
-/

namespace Sys2Proof.Machine

/-! ## The registers after the procedures (R161 to R163, R171 to R173) -/

theorem fnvj32Reset_eq (u : Fnvj32Regs) :
    fnvj32Reset u = ⟨u.seed, 0x811C9DC5#32 ^^^ u.seed, 0#32, 0#32, 0#2⟩ := by
  rw [fnvj32Reset, fnv32Init]

theorem fnvj64Reset_eq (u : Fnvj64Regs) :
    fnvj64Reset u = ⟨u.seed, 0xCBF29CE484222325#64 ^^^ u.seed, 0#64, 0#64, 0#3⟩ := by
  rw [fnvj64Reset, fnv64Init]

theorem fnvj32Byte_eq (b : Byte) (u : Fnvj32Regs) : fnvj32Byte b u =
    let pw := u.pw ||| b.setWidth 32 <<< (8 * (3 - u.ppos.toNat))
    if u.ppos = 3#2 then
      { u with acc := u.acc * 0x01000193#32 ^^^ pw, len := u.len + 1#32, pw := 0#32, ppos := 0#2 }
    else { u with len := u.len + 1#32, pw := pw, ppos := u.ppos + 1#2 } := by
  rw [fnvj32Byte, fnvj32Place, fnv32Prime]

theorem fnvj64Byte_eq (b : Byte) (u : Fnvj64Regs) : fnvj64Byte b u =
    let pw := u.pw ||| b.setWidth 64 <<< (8 * (7 - u.ppos.toNat))
    if u.ppos = 7#3 then
      { u with acc := u.acc * 0x00000100000001B3#64 ^^^ pw, len := u.len + 1#64, pw := 0#64, ppos := 0#3 }
    else { u with len := u.len + 1#64, pw := pw, ppos := u.ppos + 1#3 } := by
  rw [fnvj64Byte, fnvj64Place, fnv64Prime]

theorem fnvj32Folded_eq (u : Fnvj32Regs) :
    fnvj32Folded u = if u.ppos = 0#2 then u.acc else u.acc * 0x01000193#32 ^^^ u.pw := by
  rw [fnvj32Folded, fnv32Prime]

theorem fnvj64Folded_eq (u : Fnvj64Regs) :
    fnvj64Folded u = if u.ppos = 0#3 then u.acc else u.acc * 0x00000100000001B3#64 ^^^ u.pw := by
  rw [fnvj64Folded, fnv64Prime]

theorem fnvj32Value_eq (u : Fnvj32Regs) : fnvj32Value u =
    ((fnvj32Folded u * 0x01000193#32 ^^^ u.len) * 0x01000193#32).setWidth 64 := by
  rw [fnvj32Value, fnv32Prime]

theorem fnvj64Value_eq (u : Fnvj64Regs) : fnvj64Value u =
    (fnvj64Folded u * 0x00000100000001B3#64 ^^^ u.len) * 0x00000100000001B3#64 := by
  rw [fnvj64Value, fnv64Prime]

/-! ## The units after a command -/

theorem resetUnit_fnvj32 (s : State) : resetUnit .fnvj32 s =
    s.setU2 ⟨s.u2.seed, 0x811C9DC5#32 ^^^ s.u2.seed, 0#32, 0#32, 0#2⟩ :=
  congrArg s.setU2 (fnvj32Reset_eq s.u2)

theorem resetUnit_fnvj64 (s : State) : resetUnit .fnvj64 s =
    s.setU3 ⟨s.u3.seed, 0xCBF29CE484222325#64 ^^^ s.u3.seed, 0#64, 0#64, 0#3⟩ :=
  congrArg s.setU3 (fnvj64Reset_eq s.u3)

theorem byteUnit_fnvj32 (b : Byte) (s : State) : byteUnit .fnvj32 b s = s.setU2 (fnvj32Byte b s.u2) := rfl

theorem byteUnit_fnvj64 (b : Byte) (s : State) : byteUnit .fnvj64 b s = s.setU3 (fnvj64Byte b s.u3) := rfl

theorem bytesUnit_fnvj32_memRead (m : Memory) (a n : Nat) (s : State) : bytesUnit .fnvj32 (memRead m a n) s =
    s.setU2 ((List.range n).foldl (fun u i => fnvj32Byte (m.byteAt (a + i)) u) s.u2) := by
  rw [bytesUnit, foldl_memRead]

theorem bytesUnit_fnvj64_memRead (m : Memory) (a n : Nat) (s : State) : bytesUnit .fnvj64 (memRead m a n) s =
    s.setU3 ((List.range n).foldl (fun u i => fnvj64Byte (m.byteAt (a + i)) u) s.u3) := by
  rw [bytesUnit, foldl_memRead]

theorem valueUnit_fnvj32 (s : State) : valueUnit .fnvj32 s = (fnvj32Value s.u2, s) := rfl

theorem valueUnit_fnvj64 (s : State) : valueUnit .fnvj64 s = (fnvj64Value s.u3, s) := rfl

/-! ## The claims about single commands -/

/-- Settles O28: each word is the encoding of its instruction, and a range is a fold of the one-byte update. -/
theorem fnvj32Updates : Obligations.Fnvj32Updates := by
  unfold Obligations.Fnvj32Updates
  intro byteStep s b op hs
  have hstep (b : Byte) (u : Fnvj32Regs) : fnvj32Byte b u = byteStep u b := fnvj32Byte_eq b u
  have hbyte := exec_updbOf_of_live hs .fnvj32 b op
  rw [byteUnit_fnvj32, hstep] at hbyte
  refine ⟨decode_of_encode_eq rfl, hbyte, decode_of_encode_eq rfl, fun hin => ?_, fun hout => ?_⟩
  · have hrange := exec_updrOf_of_inBounds hs hin .fnvj32
    simp only [bytesUnit_fnvj32_memRead, hstep] at hrange
    exact hrange
  · exact exec_updrOf_of_outOfBounds hs hout .fnvj32

/-- Settles O31: each word is the encoding of its instruction, and a range is a fold of the one-byte update. -/
theorem fnvj64Updates : Obligations.Fnvj64Updates := by
  unfold Obligations.Fnvj64Updates
  intro byteStep s b op hs
  have hstep (b : Byte) (u : Fnvj64Regs) : fnvj64Byte b u = byteStep u b := fnvj64Byte_eq b u
  have hbyte := exec_updbOf_of_live hs .fnvj64 b op
  rw [byteUnit_fnvj64, hstep] at hbyte
  refine ⟨decode_of_encode_eq rfl, hbyte, decode_of_encode_eq rfl, fun hin => ?_, fun hout => ?_⟩
  · have hrange := exec_updrOf_of_inBounds hs hin .fnvj64
    simp only [bytesUnit_fnvj64_memRead, hstep] at hrange
    exact hrange
  · exact exec_updrOf_of_outOfBounds hs hout .fnvj64

/-- Settles O27: construction is the seed and then the registers from it. -/
theorem fnvj32Construction : Obligations.Fnvj32Construction := by
  intro s op hs
  have hinit := exec_initOf_of_live hs .fnvj32 op
  have hreset := exec_resetOf_of_live hs .fnvj32 op
  rw [resetUnit_fnvj32] at hinit hreset
  exact ⟨decode_of_encode_eq rfl, hinit, decode_of_encode_eq rfl, hreset⟩

/-- Settles O30: construction is the seed and then the registers from it. -/
theorem fnvj64Construction : Obligations.Fnvj64Construction := by
  intro s op hs
  have hinit := exec_initOf_of_live hs .fnvj64 op
  have hreset := exec_resetOf_of_live hs .fnvj64 op
  rw [resetUnit_fnvj64] at hinit hreset
  exact ⟨decode_of_encode_eq rfl, hinit, decode_of_encode_eq rfl, hreset⟩

/-- Settles O29: the value is a function of the unit's registers, which stay. -/
theorem fnvj32ValueCommand : Obligations.Fnvj32Value := by
  intro s op hs a f
  have hvalue := exec_getvOf_of_live hs .fnvj32 op
  rw [valueUnit_fnvj32, fnvj32Value_eq, fnvj32Folded_eq] at hvalue
  exact ⟨decode_of_encode_eq rfl, hvalue⟩

/-- Settles O32: the value is a function of the unit's registers, which stay. -/
theorem fnvj64ValueCommand : Obligations.Fnvj64Value := by
  intro s op hs a f
  have hvalue := exec_getvOf_of_live hs .fnvj64 op
  rw [valueUnit_fnvj64, fnvj64Value_eq, fnvj64Folded_eq] at hvalue
  exact ⟨decode_of_encode_eq rfl, hvalue⟩

/-! ## Multiplying on the first byte of an input block (R165) -/

/-- A byte put big-endian below the first `p` bytes of a word that is zero there: OR is XOR. -/
theorem placeBE_or_eq_xor {w n p : Nat} (hw : w = 8 * (n + 1)) (hp : p ≤ n) (b : Byte) {x : BitVec w}
    (hx : x <<< (8 * p) = 0#w) : x ||| b.setWidth w <<< (8 * (n - p)) = x ^^^ b.setWidth w <<< (8 * (n - p)) := by
  refine BitVec.eq_of_getLsbD_eq fun i hi => ?_
  have hlow : i + 8 * p < w → x.getLsbD i = false := fun hlt => by
    simpa [hlt, hi] using congrArg (fun y : BitVec w => y.getLsbD (i + 8 * p)) hx
  have hbyte : w ≤ i + 8 * p → b.getLsbD (i - 8 * (n - p)) = false := fun hge =>
    BitVec.getLsbD_of_ge b _ (by omega)
  rcases Nat.lt_or_ge (i + 8 * p) w with hlt | hge
  · simp [hlow hlt]
  · simp [hbyte hge]

/-- R165: the eager accumulator after a byte. -/
theorem fnvj32Folded_fnvj32Byte (b : Byte) {u : Fnvj32Regs} (h : Fnvj32Inv u) : fnvj32Folded (fnvj32Byte b u) =
    if u.ppos = 0#2 then fnvj32Folded u * fnv32Prime ^^^ b.setWidth 32 <<< 24
    else fnvj32Folded u ^^^ b.setWidth 32 <<< (8 * (3 - u.ppos.toNat)) := by
  obtain ⟨-, hpw⟩ := h
  have hfed : fnvj32Folded (fnvj32Byte b u) = u.acc * fnv32Prime ^^^ fnvj32Place b u := by
    by_cases hlast : u.ppos = 3#2
    · simp [fnvj32Folded, hlast]
    · have hne : u.ppos + 1#2 ≠ 0#2 := by bv_omega
      simp [fnvj32Folded, hlast, hne]
  have hplace : fnvj32Place b u = u.pw ^^^ b.setWidth 32 <<< (8 * (3 - u.ppos.toNat)) :=
    placeBE_or_eq_xor (by decide) (by omega) b hpw
  rw [hfed, hplace, fnvj32Folded]
  split
  next hfirst =>
    have hzero : u.pw = 0#32 := by simpa [hfirst] using hpw
    simp [hfirst, hzero]
  next => rw [BitVec.xor_assoc]

/-- R165: the eager accumulator after a byte. -/
theorem fnvj64Folded_fnvj64Byte (b : Byte) {u : Fnvj64Regs} (h : Fnvj64Inv u) : fnvj64Folded (fnvj64Byte b u) =
    if u.ppos = 0#3 then fnvj64Folded u * fnv64Prime ^^^ b.setWidth 64 <<< 56
    else fnvj64Folded u ^^^ b.setWidth 64 <<< (8 * (7 - u.ppos.toNat)) := by
  obtain ⟨-, hpw⟩ := h
  have hfed : fnvj64Folded (fnvj64Byte b u) = u.acc * fnv64Prime ^^^ fnvj64Place b u := by
    by_cases hlast : u.ppos = 7#3
    · simp [fnvj64Folded, hlast]
    · have hne : u.ppos + 1#3 ≠ 0#3 := by bv_omega
      simp [fnvj64Folded, hlast, hne]
  have hplace : fnvj64Place b u = u.pw ^^^ b.setWidth 64 <<< (8 * (7 - u.ppos.toNat)) :=
    placeBE_or_eq_xor (by decide) (by omega) b hpw
  rw [hfed, hplace, fnvj64Folded]
  split
  next hfirst =>
    have hzero : u.pw = 0#64 := by simpa [hfirst] using hpw
    simp [hfirst, hzero]
  next => rw [BitVec.xor_assoc]

/-- Settles O49: the model's folded accumulator is the eager one, and the value is already written in it. -/
theorem fnvjEagerForm : Obligations.FnvjEagerForm := by
  unfold Obligations.FnvjEagerForm
  intro eager2 eager3 s b op hs h2 h3
  have heager2 (u : Fnvj32Regs) : fnvj32Folded u = eager2 u := fnvj32Folded_eq u
  have heager3 (u : Fnvj64Regs) : fnvj64Folded u = eager3 u := fnvj64Folded_eq u
  refine ⟨⟨_, exec_updbOf_of_live hs .fnvj32 b op, ?_⟩, ⟨_, exec_getvOf_of_live hs .fnvj32 op, ?_⟩,
    ⟨_, exec_updbOf_of_live hs .fnvj64 b op, ?_⟩, ⟨_, exec_getvOf_of_live hs .fnvj64 op, ?_⟩⟩
  · rw [byteUnit_fnvj32, State.setU2_u2, ← heager2, ← heager2, fnvj32Folded_fnvj32Byte b h2, fnv32Prime]
  · rw [valueUnit_fnvj32, ← heager2]
    exact fnvj32Value_eq s.u2
  · rw [byteUnit_fnvj64, State.setU3_u3, ← heager3, ← heager3, fnvj64Folded_fnvj64Byte b h3, fnv64Prime]
  · rw [valueUnit_fnvj64, ← heager3]
    exact fnvj64Value_eq s.u3

end Sys2Proof.Machine
end

section
/-!
SUPPORT. Range updates in three phases (R164, R196, R228): a unit that collects its bytes into input blocks, the byte
walk over a range, and the datapath that drains a pending block, takes full blocks whole and walks the tail. One
argument for every such unit.
-/

namespace Sys2Proof.Machine

/-! ## Units that collect bytes into blocks -/

/-- A unit with register file `α` whose input blocks have `2 ^ v` bytes. -/
structure BlockUnit (α : Type) (v : Nat) where
  /-- The bytes of the current input block already received. -/
  pos : α → BitVec v
  /-- The one-byte update. -/
  byte : Byte → α → α
  /-- The update by the full block at an address. -/
  block : Memory → Nat → α → α

namespace BlockUnit

variable {α : Type} {v : Nat} (U : BlockUnit α v) (m : Memory)

/-- The byte walk over `n` bytes from address `i`: also the third phase of the datapath. -/
def walk : Nat → Nat → α → α
  | 0, _, u => u
  | n + 1, i, u => walk n (i + 1) (U.byte (m.byteAt i) u)

/-- The first phase: single bytes until a block boundary; the unit, the next address and the bytes left. -/
def drain : Nat → Nat → α → α × Nat × Nat
  | 0, i, u => (u, i, 0)
  | n + 1, i, u => if U.pos u = 0#v then (u, i, n + 1) else drain n (i + 1) (U.byte (m.byteAt i) u)

/-- The second phase: `k` full blocks from address `j`. -/
def blocks : Nat → Nat → α → α
  | 0, _, u => u
  | k + 1, j, u => blocks k (j + 2 ^ v) (U.block m j u)

/-- The three phases over `n` bytes at `a`. -/
def datapath (a n : Nat) (u : α) : α :=
  let (u1, i, left) := U.drain m n a u
  U.walk m (left % 2 ^ v) (i + 2 ^ v * (left / 2 ^ v)) (U.blocks m (left / 2 ^ v) i u1)

/-- What makes the full-block update right: bytes are counted modulo the block, `good` is kept by every byte, and from
a good unit at a block boundary the full-block update is the walk over the block. -/
structure Correct (good : α → Prop) : Prop where
  pos_byte : ∀ b u, U.pos (U.byte b u) = U.pos u + 1#v
  good_byte : ∀ b u, good u → good (U.byte b u)
  block_eq_walk : ∀ m j u, good u → U.pos u = 0#v → U.block m j u = U.walk m (2 ^ v) j u

theorem walk_add (n k i : Nat) (u : α) : U.walk m (n + k) i u = U.walk m k (i + n) (U.walk m n i u) := by
  induction n generalizing i u with
  | zero => simp only [Nat.zero_add, walk, Nat.add_zero]
  | succ n ih => rw [Nat.succ_add, walk, walk, ih, Nat.add_right_comm, Nat.add_assoc]

theorem walk_concat (n i : Nat) (u : α) : U.walk m (n + 1) i u = U.byte (m.byteAt (i + n)) (U.walk m n i u) := by
  rw [walk_add, walk, walk]

/-- The walk feeds the bytes that the range update reads. -/
theorem walk_eq_foldl (n i : Nat) (u : α) : U.walk m n i u = (memRead m i n).foldl (fun u b => U.byte b u) u := by
  induction n generalizing i u with
  | zero => rfl
  | succ n ih => rw [walk, ih, memRead_succ, List.foldl_cons]

/-- All the first phase can do: walk a first part of the range, all of it or up to a block boundary. -/
theorem drain_eq_walk (n i : Nat) (u : α) : ∃ k ≤ n, U.drain m n i u = (U.walk m k i u, i + k, n - k)
    ∧ (k = n ∨ U.pos (U.walk m k i u) = 0#v) := by
  induction n generalizing i u with
  | zero => exact ⟨0, le_rfl, rfl, .inl rfl⟩
  | succ n ih =>
    by_cases hpos : U.pos u = 0#v
    · exact ⟨0, Nat.zero_le _, if_pos hpos, .inr hpos⟩
    · obtain ⟨k, hk, hdrain, hend⟩ := ih (i + 1) (U.byte (m.byteAt i) u)
      refine ⟨k + 1, Nat.succ_le_succ hk, ?_, hend.imp_left (congrArg Nat.succ)⟩
      rw [drain, if_neg hpos, hdrain, walk, Nat.add_right_comm, Nat.add_assoc, Nat.succ_sub_succ]

variable {U} {good : α → Prop} (h : U.Correct good)
include h

theorem Correct.good_walk (n i : Nat) {u : α} (hu : good u) : good (U.walk m n i u) := by
  induction n generalizing i u with
  | zero => exact hu
  | succ n ih => exact ih (i + 1) (h.good_byte _ u hu)

theorem Correct.pos_walk (n i : Nat) (u : α) : U.pos (U.walk m n i u) = U.pos u + BitVec.ofNat v n := by
  induction n generalizing i u with
  | zero => rw [walk, BitVec.add_zero]
  | succ n ih => rw [walk, ih, h.pos_byte, BitVec.add_assoc, ← BitVec.ofNat_add, Nat.add_comm 1 n]

/-- The second phase is the walk over its blocks: a full block ends at a block boundary again. -/
theorem Correct.blocks_eq_walk (k j : Nat) {u : α} (hu : good u) (hpos : U.pos u = 0#v) :
    U.blocks m k j u = U.walk m (2 ^ v * k) j u := by
  induction k generalizing j u with
  | zero => rfl
  | succ k ih =>
    have hboundary : U.pos (U.walk m (2 ^ v) j u) = 0#v := by
      rw [h.pos_walk, hpos, BitVec.zero_add]
      exact BitVec.eq_of_toNat_eq (by rw [BitVec.toNat_ofNat, Nat.mod_self, BitVec.toNat_zero])
    rw [blocks, h.block_eq_walk m j u hu hpos, ih _ (h.good_walk m _ _ hu) hboundary, Nat.mul_succ,
      Nat.add_comm (2 ^ v * k), walk_add]

/-- The three phases are the byte walk. -/
theorem Correct.datapath_eq_walk (a n : Nat) {u : α} (hu : good u) : U.datapath m a n u = U.walk m n a u := by
  obtain ⟨k, hk, hdrain, hend⟩ := U.drain_eq_walk m n a u
  have hblocks : U.blocks m ((n - k) / 2 ^ v) (a + k) (U.walk m k a u)
      = U.walk m (2 ^ v * ((n - k) / 2 ^ v)) (a + k) (U.walk m k a u) := by
    rcases hend with rfl | hpos
    · rw [Nat.sub_self, Nat.zero_div]
      rfl
    · exact h.blocks_eq_walk m _ _ (h.good_walk m k a hu) hpos
  calc U.datapath m a n u
      = U.walk m ((n - k) % 2 ^ v) (a + k + 2 ^ v * ((n - k) / 2 ^ v))
          (U.walk m (2 ^ v * ((n - k) / 2 ^ v)) (a + k) (U.walk m k a u)) := by
        rw [datapath, hdrain, ← hblocks]
    _ = U.walk m (n - k) (a + k) (U.walk m k a u) := by rw [← walk_add, Nat.div_add_mod]
    _ = U.walk m n a u := by rw [← walk_add, Nat.add_sub_cancel' hk]

end BlockUnit

end Sys2Proof.Machine
end

section
/-!
SUPPORT. The datapath of units 2 and 3 (R164): their three phases are those of a block unit, and their full-block update
is the byte walk over the block.
-/

namespace Sys2Proof.Machine

/-- One more byte of a big-endian word, put at its place. -/
theorem place_beNat_memRead (w : Nat) (m : Memory) (j n r : Nat) :
    BitVec.ofNat w (beNat (memRead m j n)) <<< (8 * (r + 1)) ||| (m.byteAt (j + n)).setWidth w <<< (8 * r)
      = BitVec.ofNat w (beNat (memRead m j (n + 1))) <<< (8 * r) := by
  rw [ofNat_beNat_memRead_succ, BitVec.shiftLeft_or_distrib, ← BitVec.shiftLeft_add, Nat.mul_succ, Nat.add_comm 8]

/-! ## Unit 2 -/

/-- Unit 2 as a block unit (R162, R164). -/
def fnvj32Unit : BlockUnit Fnvj32Regs 2 where
  pos u := u.ppos
  byte := fnvj32Byte
  block m j u := { u with acc := u.acc * fnv32Prime ^^^ rd32BE m j, len := u.len + 4#32 }

theorem fnvj32Unit_pos (u : Fnvj32Regs) : fnvj32Unit.pos u = u.ppos := rfl

theorem fnvj32Unit_byte (b : Byte) (u : Fnvj32Regs) : fnvj32Unit.byte b u = fnvj32Byte b u := rfl

theorem fnvj32Unit_block (m : Memory) (j : Nat) (u : Fnvj32Regs) : fnvj32Unit.block m j u =
    { u with acc := u.acc * fnv32Prime ^^^ rd32BE m j, len := u.len + 4#32 } := by
  rw [fnvj32Unit]

theorem fnvj32Drain_eq (m : Memory) (n i : Nat) (u : Fnvj32Regs) :
    fnvj32Drain m n i u = fnvj32Unit.drain m n i u := by
  induction n generalizing i u with
  | zero => rfl
  | succ n ih => rw [fnvj32Drain, ih, BlockUnit.drain, fnvj32Unit_pos, fnvj32Unit_byte]

/-- One block of the second phase. It is read off the definition as a whole, since comparing the two sides by
evaluation would multiply by the prime. -/
theorem fnvj32Words_succ (m : Memory) (k j : Nat) (u : Fnvj32Regs) : fnvj32Words m (k + 1) j u =
    fnvj32Words m k (j + 4) { u with acc := u.acc * fnv32Prime ^^^ rd32BE m j, len := u.len + 4#32 } := by
  rw [fnvj32Words.eq_def]

theorem fnvj32Words_eq (m : Memory) (k j : Nat) (u : Fnvj32Regs) :
    fnvj32Words m k j u = fnvj32Unit.blocks m k j u := by
  induction k generalizing j u with
  | zero => rfl
  | succ k ih => rw [fnvj32Words_succ, ih, BlockUnit.blocks, fnvj32Unit_block, show 2 ^ 2 = 4 from rfl]

theorem fnvj32Tail_eq (m : Memory) (n i : Nat) (u : Fnvj32Regs) :
    fnvj32Tail m n i u = fnvj32Unit.walk m n i u := by
  induction n generalizing i u with
  | zero => rfl
  | succ n ih => rw [fnvj32Tail, ih, BlockUnit.walk, fnvj32Unit_byte]

theorem fnvj32Datapath_eq (m : Memory) (a n : Nat) (u : Fnvj32Regs) :
    fnvj32Datapath m a n u = fnvj32Unit.datapath m a n u := by
  simp only [fnvj32Datapath, fnvj32Drain_eq, fnvj32Words_eq, fnvj32Tail_eq, BlockUnit.datapath, Nat.reducePow]

/-- The part of R36 (b) that the full-block update needs: no byte is pending at a block boundary. -/
def Fnvj32Regs.NonePending (u : Fnvj32Regs) : Prop := u.ppos = 0#2 → u.pw = 0#32

theorem fnvj32Byte_nonePending (b : Byte) (u : Fnvj32Regs) : (fnvj32Byte b u).NonePending := by
  intro hpos
  rw [fnvj32Byte_ppos] at hpos
  have hlast : u.ppos = 3#2 := by bv_omega
  rw [fnvj32Byte_pw, if_pos hlast]

/-- R162: the unit inside an input block, `n` bytes after its boundary. -/
theorem fnvj32Unit_walk_inside (m : Memory) (j : Nat) {u : Fnvj32Regs} (hpw : u.pw = 0#32) (hpos : u.ppos = 0#2)
    {n : Nat} (hn : n < 4) : fnvj32Unit.walk m n j u = { u with
      len := u.len + BitVec.ofNat 32 n
      pw := BitVec.ofNat 32 (beNat (memRead m j n)) <<< (8 * (4 - n))
      ppos := BitVec.ofNat 2 n } := by
  induction n with
  | zero =>
    rw [ofNat_beNat_memRead_zero, BitVec.zero_shiftLeft, BitVec.add_zero, ← hpw, ← hpos]
    rfl
  | succ n ih =>
    have hne : BitVec.ofNat 2 n ≠ 3#2 := by bv_omega
    have hplace : 3 - (BitVec.ofNat 2 n).toNat = 3 - n := by rw [BitVec.toNat_ofNat]; omega
    rw [BlockUnit.walk_concat, ih (by omega), fnvj32Unit_byte, fnvj32Byte, if_neg hne, fnvj32Place, hplace,
      show 4 - n = 3 - n + 1 by omega, place_beNat_memRead, BitVec.add_assoc, ← BitVec.ofNat_add,
      ← BitVec.ofNat_add, show 4 - (n + 1) = 3 - n by omega]

/-- R110, R162: the bytes of a block are one multiplication and one XOR of their big-endian word. -/
theorem fnvj32Unit_block_eq_walk (m : Memory) (j : Nat) {u : Fnvj32Regs} (hpw : u.pw = 0#32) (hpos : u.ppos = 0#2) :
    fnvj32Unit.block m j u = fnvj32Unit.walk m 4 j u := by
  have hword : BitVec.ofNat 32 (beNat (memRead m j 3)) <<< (8 * (4 - 3)) |||
      (m.byteAt (j + 3)).setWidth 32 <<< (8 * (3 - (BitVec.ofNat 2 3).toNat)) = rd32BE m j :=
    (place_beNat_memRead 32 m j 3 0).trans (BitVec.shiftLeft_zero _)
  rw [BlockUnit.walk_concat, fnvj32Unit_walk_inside m j hpw hpos (by decide), fnvj32Unit_byte, fnvj32Byte, if_pos rfl,
    fnvj32Place, hword, fnvj32Unit_block, hpw, hpos, BitVec.add_assoc, ← BitVec.ofNat_add]

theorem fnvj32Unit_correct : fnvj32Unit.Correct Fnvj32Regs.NonePending where
  pos_byte := fnvj32Byte_ppos
  good_byte b u _ := fnvj32Byte_nonePending b u
  block_eq_walk m j _ hu hpos := fnvj32Unit_block_eq_walk m j (hu hpos) hpos

/-- R164: the datapath of unit 2 is the range update. -/
theorem fnvj32Datapath_eq_foldl (m : Memory) (a n : Nat) {u : Fnvj32Regs} (hu : u.NonePending) :
    fnvj32Datapath m a n u = (memRead m a n).foldl (fun u b => fnvj32Byte b u) u := by
  rw [fnvj32Datapath_eq, fnvj32Unit_correct.datapath_eq_walk m a n hu, BlockUnit.walk_eq_foldl]
  rfl

/-! ## Unit 3 -/

/-- Unit 3 as a block unit (R164, R172). -/
def fnvj64Unit : BlockUnit Fnvj64Regs 3 where
  pos u := u.ppos
  byte := fnvj64Byte
  block m j u := { u with acc := u.acc * fnv64Prime ^^^ rd64BE m j, len := u.len + 8#64 }

theorem fnvj64Unit_pos (u : Fnvj64Regs) : fnvj64Unit.pos u = u.ppos := rfl

theorem fnvj64Unit_byte (b : Byte) (u : Fnvj64Regs) : fnvj64Unit.byte b u = fnvj64Byte b u := rfl

theorem fnvj64Unit_block (m : Memory) (j : Nat) (u : Fnvj64Regs) : fnvj64Unit.block m j u =
    { u with acc := u.acc * fnv64Prime ^^^ rd64BE m j, len := u.len + 8#64 } := by
  rw [fnvj64Unit]

theorem fnvj64Drain_eq (m : Memory) (n i : Nat) (u : Fnvj64Regs) :
    fnvj64Drain m n i u = fnvj64Unit.drain m n i u := by
  induction n generalizing i u with
  | zero => rfl
  | succ n ih => rw [fnvj64Drain, ih, BlockUnit.drain, fnvj64Unit_pos, fnvj64Unit_byte]

/-- One block of the second phase. It is read off the definition as a whole, since comparing the two sides by
evaluation would multiply by the prime. -/
theorem fnvj64Words_succ (m : Memory) (k j : Nat) (u : Fnvj64Regs) : fnvj64Words m (k + 1) j u =
    fnvj64Words m k (j + 8) { u with acc := u.acc * fnv64Prime ^^^ rd64BE m j, len := u.len + 8#64 } := by
  rw [fnvj64Words.eq_def]

theorem fnvj64Words_eq (m : Memory) (k j : Nat) (u : Fnvj64Regs) :
    fnvj64Words m k j u = fnvj64Unit.blocks m k j u := by
  induction k generalizing j u with
  | zero => rfl
  | succ k ih => rw [fnvj64Words_succ, ih, BlockUnit.blocks, fnvj64Unit_block, show 2 ^ 3 = 8 from rfl]

theorem fnvj64Tail_eq (m : Memory) (n i : Nat) (u : Fnvj64Regs) :
    fnvj64Tail m n i u = fnvj64Unit.walk m n i u := by
  induction n generalizing i u with
  | zero => rfl
  | succ n ih => rw [fnvj64Tail, ih, BlockUnit.walk, fnvj64Unit_byte]

theorem fnvj64Datapath_eq (m : Memory) (a n : Nat) (u : Fnvj64Regs) :
    fnvj64Datapath m a n u = fnvj64Unit.datapath m a n u := by
  simp only [fnvj64Datapath, fnvj64Drain_eq, fnvj64Words_eq, fnvj64Tail_eq, BlockUnit.datapath, Nat.reducePow]

/-- The part of R36 (b) that the full-block update needs: no byte is pending at a block boundary. -/
def Fnvj64Regs.NonePending (u : Fnvj64Regs) : Prop := u.ppos = 0#3 → u.pw = 0#64

theorem fnvj64Byte_nonePending (b : Byte) (u : Fnvj64Regs) : (fnvj64Byte b u).NonePending := by
  intro hpos
  rw [fnvj64Byte_ppos] at hpos
  have hlast : u.ppos = 7#3 := by bv_omega
  rw [fnvj64Byte_pw, if_pos hlast]

/-- R172: the unit inside an input block, `n` bytes after its boundary. -/
theorem fnvj64Unit_walk_inside (m : Memory) (j : Nat) {u : Fnvj64Regs} (hpw : u.pw = 0#64) (hpos : u.ppos = 0#3)
    {n : Nat} (hn : n < 8) : fnvj64Unit.walk m n j u = { u with
      len := u.len + BitVec.ofNat 64 n
      pw := BitVec.ofNat 64 (beNat (memRead m j n)) <<< (8 * (8 - n))
      ppos := BitVec.ofNat 3 n } := by
  induction n with
  | zero =>
    rw [ofNat_beNat_memRead_zero, BitVec.zero_shiftLeft, BitVec.add_zero, ← hpw, ← hpos]
    rfl
  | succ n ih =>
    have hne : BitVec.ofNat 3 n ≠ 7#3 := by bv_omega
    have hplace : 7 - (BitVec.ofNat 3 n).toNat = 7 - n := by rw [BitVec.toNat_ofNat]; omega
    rw [BlockUnit.walk_concat, ih (by omega), fnvj64Unit_byte, fnvj64Byte, if_neg hne, fnvj64Place, hplace,
      show 8 - n = 7 - n + 1 by omega, place_beNat_memRead, BitVec.add_assoc, ← BitVec.ofNat_add,
      ← BitVec.ofNat_add, show 8 - (n + 1) = 7 - n by omega]

/-- R110, R172: the bytes of a block are one multiplication and one XOR of their big-endian word. -/
theorem fnvj64Unit_block_eq_walk (m : Memory) (j : Nat) {u : Fnvj64Regs} (hpw : u.pw = 0#64) (hpos : u.ppos = 0#3) :
    fnvj64Unit.block m j u = fnvj64Unit.walk m 8 j u := by
  have hword : BitVec.ofNat 64 (beNat (memRead m j 7)) <<< (8 * (8 - 7)) |||
      (m.byteAt (j + 7)).setWidth 64 <<< (8 * (7 - (BitVec.ofNat 3 7).toNat)) = rd64BE m j :=
    (place_beNat_memRead 64 m j 7 0).trans (BitVec.shiftLeft_zero _)
  rw [BlockUnit.walk_concat, fnvj64Unit_walk_inside m j hpw hpos (by decide), fnvj64Unit_byte, fnvj64Byte, if_pos rfl,
    fnvj64Place, hword, fnvj64Unit_block, hpw, hpos, BitVec.add_assoc, ← BitVec.ofNat_add]

theorem fnvj64Unit_correct : fnvj64Unit.Correct Fnvj64Regs.NonePending where
  pos_byte := fnvj64Byte_ppos
  good_byte b u _ := fnvj64Byte_nonePending b u
  block_eq_walk m j _ hu hpos := fnvj64Unit_block_eq_walk m j (hu hpos) hpos

/-- R164: the datapath of unit 3 is the range update. -/
theorem fnvj64Datapath_eq_foldl (m : Memory) (a n : Nat) {u : Fnvj64Regs} (hu : u.NonePending) :
    fnvj64Datapath m a n u = (memRead m a n).foldl (fun u b => fnvj64Byte b u) u := by
  rw [fnvj64Datapath_eq, fnvj64Unit_correct.datapath_eq_walk m a n hu, BlockUnit.walk_eq_foldl]
  rfl

/-! ## The claim -/

/-- Settles O47: both sides are the byte walk over the range. -/
theorem fnvjDatapath : Obligations.FnvjDatapath := by
  intro s op hs hin
  refine ⟨fun h2 => ?_, fun h3 => ?_⟩
  · rw [fnvj32Datapath_eq_foldl _ _ _ h2]
    exact exec_updrOf_of_inBounds hs hin .fnvj32
  · rw [fnvj64Datapath_eq_foldl _ _ _ h3]
    exact exec_updrOf_of_inBounds hs hin .fnvj64

end Sys2Proof.Machine
end

section
/-!
SUPPORT. Unit 4, M3A (spec/44_murmur3_32.md): the mix, the avalanche and the registers its procedures leave with the
constants of R9 written out, and construction, byte and range updates and the value as commands.
-/

namespace Sys2Proof.Machine

/-! ## The functions and the registers after the procedures (R190 to R195) -/

theorem mixK32_eq (k : Word32) : mixK32 k = (k * 0xCC9E2D51#32).rotateLeft 15 * 0x1B873593#32 := by
  rw [mixK32, rotl32_eq_rotateLeft _ _ (by decide), m32C1, m32C2]

theorem applyK1_eq (k h1 : Word32) :
    applyK1 k h1 = (h1 ^^^ mixK32 k).rotateLeft 13 * 5#32 + 0xE6546B64#32 := by
  rw [applyK1, rotl32_eq_rotateLeft _ _ (by decide), m32N]

theorem m3aReset_eq (u : M3aRegs) : m3aReset u = ⟨u.seed, u.seed, 0#32, 0#32, 0#2⟩ := by
  rw [m3aReset]

theorem m3aByte_eq (b : Byte) (u : M3aRegs) : m3aByte b u =
    let pk1 := u.pk1 ||| b.setWidth 32 <<< (8 * u.ppos.toNat)
    if u.ppos = 3#2 then
      { u with
        h1 := (u.h1 ^^^ mixK32 pk1).rotateLeft 13 * 5#32 + 0xE6546B64#32, len := u.len + 1#32, pk1 := 0#32,
        ppos := 0#2 }
    else { u with len := u.len + 1#32, pk1 := pk1, ppos := u.ppos + 1#2 } := by
  rw [m3aByte, m3aPlace, applyK1_eq]

theorem fmix32_eq (h : Word32) : fmix32 h =
    let h := (h ^^^ h >>> 16) * 0x85EBCA6B#32
    let h := (h ^^^ h >>> 13) * 0xC2B2AE35#32
    h ^^^ h >>> 16 := by
  rw [fmix32, m32F1, m32F2]

/-! ## The unit after a command -/

theorem resetUnit_m3a (s : State) : resetUnit .m3a s = s.setU4 ⟨s.u4.seed, s.u4.seed, 0#32, 0#32, 0#2⟩ :=
  congrArg s.setU4 (m3aReset_eq s.u4)

theorem byteUnit_m3a (b : Byte) (s : State) : byteUnit .m3a b s = s.setU4 (m3aByte b s.u4) := rfl

theorem bytesUnit_m3a_memRead (m : Memory) (a n : Nat) (s : State) : bytesUnit .m3a (memRead m a n) s =
    s.setU4 ((List.range n).foldl (fun u i => m3aByte (m.byteAt (a + i)) u) s.u4) := by
  rw [bytesUnit, m3aBytes, foldl_memRead]

theorem valueUnit_m3a (s : State) : valueUnit .m3a s = (m3aValue s.u4, s) := rfl

/-! ## The claims -/

/-- Settles O34: each word is the encoding of its instruction, and a range is a fold of the one-byte update. -/
theorem m3aUpdates : Obligations.M3aUpdates := by
  unfold Obligations.M3aUpdates
  intro mix byteStep s b op hs
  have hmix : mixK32 = mix := funext mixK32_eq
  have hstep (b : Byte) (u : M3aRegs) : m3aByte b u = byteStep u b := by rw [m3aByte_eq, hmix]
  have hbyte := exec_updbOf_of_live hs .m3a b op
  rw [byteUnit_m3a, hstep] at hbyte
  refine ⟨decode_of_encode_eq rfl, hbyte, decode_of_encode_eq rfl, fun hin => ?_, fun hout => ?_⟩
  · have hrange := exec_updrOf_of_inBounds hs hin .m3a
    simp only [bytesUnit_m3a_memRead, hstep] at hrange
    exact hrange
  · exact exec_updrOf_of_outOfBounds hs hout .m3a

/-- Settles O33: construction is the seed and then the registers from it. -/
theorem m3aConstruction : Obligations.M3aConstruction := by
  intro s op hs
  have hinit := exec_initOf_of_live hs .m3a op
  have hreset := exec_resetOf_of_live hs .m3a op
  rw [resetUnit_m3a] at hinit hreset
  exact ⟨decode_of_encode_eq rfl, hinit, decode_of_encode_eq rfl, hreset⟩

/-- Settles O35: the value is a function of the unit's registers, which stay. -/
theorem m3aValueCommand : Obligations.M3aValue := by
  intro s op hs mix h h1 h2 h3
  have hmix : mixK32 = mix := funext mixK32_eq
  have hvalue := exec_getvOf_of_live hs .m3a op
  rw [valueUnit_m3a, m3aValue, m3aFolded, hmix, fmix32_eq] at hvalue
  exact ⟨decode_of_encode_eq rfl, hvalue⟩

end Sys2Proof.Machine
end

section
/-!
SUPPORT. The typed and array updates of unit 4 (R203 to R210) and the typed update of unit 5 (R240): the bytes of a
little-endian word are the bytes it was read from, an array update feeds its elements in index order, and both are the
byte and range updates of the same bytes.
-/

namespace Sys2Proof.Machine

/-! ## The bytes of a word (R13) -/

/-- A byte inside the part of a word that is kept. -/
theorem byteOfWord_setWidth {w v i : Nat} (h : 8 * i + 8 ≤ v) (x : BitVec w) :
    byteOfWord (x.setWidth v) i = byteOfWord x i := by
  refine BitVec.eq_of_getLsbD_eq fun j hj => ?_
  simp [byteOfWord, hj, show 8 * i + j < v by omega]

theorem bytesLE_setWidth {w v n : Nat} (h : 8 * n ≤ v) (x : BitVec w) : bytesLE n (x.setWidth v) = bytesLE n x :=
  List.map_congr_left fun i hi => byteOfWord_setWidth (by rw [List.mem_range] at hi; omega) x

theorem byteOfWord_low {w : Nat} (h : 8 ≤ w) (b : Byte) (x : BitVec w) :
    byteOfWord (b.setWidth w ||| x <<< 8) 0 = b := by
  refine BitVec.eq_of_getLsbD_eq fun j hj => ?_
  simp [byteOfWord, hj, show j < w by omega]

theorem byteOfWord_above {w i : Nat} (h : 8 * (i + 1) + 8 ≤ w) (b : Byte) (x : BitVec w) :
    byteOfWord (b.setWidth w ||| x <<< 8) (i + 1) = byteOfWord x i := by
  refine BitVec.eq_of_getLsbD_eq fun j hj => ?_
  have hhigh : b.getLsbD (8 * (i + 1) + j) = false := BitVec.getLsbD_of_ge _ _ (by omega)
  simp only [byteOfWord, BitVec.getLsbD_extractLsb', BitVec.getLsbD_or, BitVec.getLsbD_setWidth, hhigh,
    BitVec.getLsbD_shiftLeft, hj, show 8 * (i + 1) + j < w by omega, show ¬ 8 * (i + 1) + j < 8 by omega,
    show 8 * (i + 1) + j - 8 = 8 * i + j by omega, decide_true, decide_false, Bool.and_false, Bool.false_or,
    Bool.not_false, Bool.true_and]

theorem bytesLE_succ {w : Nat} (n : Nat) (x : BitVec w) :
    bytesLE (n + 1) x = byteOfWord x 0 :: (List.range n).map fun i => byteOfWord x (i + 1) := by
  rw [bytesLE, List.range_succ_eq_map, List.map_cons, List.map_map]
  rfl

/-- The bytes of a little-endian word are the bytes it was made of. -/
theorem bytesLE_ofNat_leNat {w : Nat} {bs : List Byte} (h : 8 * bs.length ≤ w) :
    bytesLE bs.length (BitVec.ofNat w (leNat bs)) = bs := by
  induction bs with
  | nil => rfl
  | cons b bs ih =>
    rw [List.length_cons] at h
    have hrest : (List.range bs.length).map (fun i => byteOfWord (BitVec.ofNat w (leNat (b :: bs))) (i + 1))
        = bytesLE bs.length (BitVec.ofNat w (leNat bs)) :=
      List.map_congr_left fun i hi => by
        rw [List.mem_range] at hi
        rw [ofNat_leNat_cons, byteOfWord_above (by omega)]
    rw [List.length_cons, bytesLE_succ, hrest, ih (by omega), ofNat_leNat_cons, byteOfWord_low (by omega)]

/-- The bytes of a word read from the buffer are the bytes of its range. -/
theorem bytesLE_ofNat_leNat_memRead {w n : Nat} (h : 8 * n ≤ w) (m : Memory) (a : Nat) :
    bytesLE n (BitVec.ofNat w (leNat (memRead m a n))) = memRead m a n := by
  have hbytes := bytesLE_ofNat_leNat (w := w) (bs := memRead m a n) (by rwa [memRead_length])
  rwa [memRead_length] at hbytes

theorem leNat_reverse (bs : List Byte) : leNat bs.reverse = beNat bs := by
  induction bs with
  | nil => rfl
  | cons b bs ih => rw [List.reverse_cons, leNat_concat, ih, List.length_reverse, beNat, Nat.mul_comm]

/-- Shifting bytes into a word, the first one ending on top. -/
theorem foldl_shiftLeft_or (w : Nat) (bs : List Byte) :
    bs.foldl (fun (x : BitVec w) b => x <<< 8 ||| b.setWidth w) 0#w = BitVec.ofNat w (beNat bs) := by
  induction bs using List.reverseRecOn with
  | nil => rfl
  | append_singleton bs b ih => rw [List.foldl_append, ih, ofNat_beNat_concat]; rfl

/-- The bytes of a byte-swapped word are those of the word in reverse. -/
theorem bytesLE_swapped {w : Nat} (n : Nat) (h : 8 * n ≤ w) (x : BitVec w) :
    bytesLE n ((List.range n).foldl (fun y i => y <<< 8 ||| (byteOfWord x i).setWidth w) 0#w) = bytesBE n x := by
  have hlen : (bytesBE n x).length = n := by simp [bytesBE, bytesLE]
  have hword : (List.range n).foldl (fun (y : BitVec w) i => y <<< 8 ||| (byteOfWord x i).setWidth w) 0#w
      = BitVec.ofNat w (leNat (bytesBE n x)) := by
    rw [bytesBE, leNat_reverse, ← foldl_shiftLeft_or, bytesLE, List.foldl_map]
  have hbytes := bytesLE_ofNat_leNat (w := w) (bs := bytesBE n x) (by rwa [hlen])
  rwa [hlen, ← hword] at hbytes

/-! ## Typed updates (R203 to R205, R240) -/

theorem m3aBytes_bytesLE {w : Nat} (n : Nat) (x : BitVec w) (u : M3aRegs) :
    m3aBytes (bytesLE n x) u = (List.range n).foldl (fun u i => m3aByte (byteOfWord x i) u) u := by
  rw [m3aBytes, bytesLE, List.foldl_map]

theorem exec_upd16M3a (op : Operands) (s : State) : exec (.upd16M3a op) s = execUpd16M3a op s := rfl

theorem exec_upd32M3a (op : Operands) (s : State) : exec (.upd32M3a op) s = execUpd32M3a op s := rfl

theorem exec_upd64M3a (op : Operands) (s : State) : exec (.upd64M3a op) s = execUpd64M3a op s := rfl

theorem exec_upd64M3f (bigEndian : Bool) (op : Operands) (s : State) :
    exec (.upd64M3f bigEndian op) s = execUpd64M3f bigEndian op s := rfl

section
variable {s : State} (hs : s.faulted = false) (op : Operands)
include hs

theorem exec_upd16M3a_of_live : exec (.upd16M3a op) s = .next (bytesUnit .m3a (bytesLE 2 op.a) s) := by
  rw [exec_upd16M3a, execUpd16M3a, whenLive_of_live hs, setU4_m3aBytes, value16, bytesLE_setWidth (by decide)]

theorem exec_upd32M3a_of_live : exec (.upd32M3a op) s = .next (bytesUnit .m3a (bytesLE 4 op.a) s) := by
  rw [exec_upd32M3a, execUpd32M3a, whenLive_of_live hs, setU4_m3aBytes, value32, bytesLE_setWidth (by decide)]

theorem exec_upd64M3a_of_live : exec (.upd64M3a op) s = .next (bytesUnit .m3a (bytesLE 8 op.a) s) := by
  rw [exec_upd64M3a, execUpd64M3a, whenLive_of_live hs, setU4_m3aBytes, value64]

theorem exec_upd64M3f_of_live (bigEndian : Bool) : exec (.upd64M3f bigEndian op) s =
    .next (bytesUnit .m3f (if bigEndian then bytesBE 8 op.a else bytesLE 8 op.a) s) := by
  rw [exec_upd64M3f, execUpd64M3f, whenLive_of_live hs, bytesUnit, value64]

end

/-- Settles O36: the bytes of the value, written out. -/
theorem m3aTypedUpdates : Obligations.M3aTypedUpdates := by
  intro s op hs
  have h64 := exec_upd64M3a_of_live hs op
  rw [bytesUnit, m3aBytes_bytesLE] at h64
  exact ⟨decode_of_encode_eq rfl, exec_upd16M3a_of_live hs op, decode_of_encode_eq rfl, exec_upd32M3a_of_live hs op,
    decode_of_encode_eq rfl, h64⟩

/-! ## Array updates (R206 to R209) -/

theorem exec_upda16M3a (null : Bool) (op : Operands) (s : State) :
    exec (.upda16M3a null op) s = shellArray 2 m3aArray16 null (encode (.upda16M3a null op)) s := rfl

theorem exec_upda32M3a (null : Bool) (op : Operands) (s : State) :
    exec (.upda32M3a null op) s = shellArray 4 m3aArray32 null (encode (.upda32M3a null op)) s := rfl

theorem exec_upda64M3a (null : Bool) (op : Operands) (s : State) :
    exec (.upda64M3a null op) s = shellArray 8 m3aArray64 null (encode (.upda64M3a null op)) s := rfl

section Shell
variable (width : Nat) (feed : Memory → Nat → Nat → M3aRegs → M3aRegs) {s : State}

theorem shellArray_of_null (p : Packet) (s : State) : shellArray width feed true p s = .next s := by
  cases hs : s.faulted
  · exact whenLive_of_live hs _
  · exact whenLive_of_faulted hs _

variable (hs : s.faulted = false) {p : Packet}
include hs

theorem shellArray_of_inBounds (h : addrOf p.ops + arrayBytes width p.ops ≤ s.mem.size) :
    shellArray width feed false p s = .next (s.setU4 (feed s.mem (countOf p.ops) (addrOf p.ops) s.u4)) := by
  rw [shellArray, whenLive_of_live hs, if_neg Bool.false_ne_true, checkBounds_of_inBounds h]

theorem shellArray_of_outOfBounds (h : s.mem.size < addrOf p.ops + arrayBytes width p.ops) :
    shellArray width feed false p s = .next (faultEntry .bounds p s) := by
  rw [shellArray, whenLive_of_live hs, if_neg Bool.false_ne_true, checkBounds_of_outOfBounds h]

end Shell

/-- What the three array updates share: elements of `width` bytes, each read by `rd` and fed least significant byte
first, from the lowest address up. -/
structure FeedsElements {w : Nat} (width : Nat) (rd : Memory → Nat → BitVec w)
    (feed : Memory → Nat → Nat → M3aRegs → M3aRegs) : Prop where
  zero : ∀ m a u, feed m 0 a u = u
  succ : ∀ m n a u, feed m (n + 1) a u = feed m n (a + width) (m3aBytes (bytesLE width (rd m a)) u)

theorem m3aArray16_feedsElements : FeedsElements 2 rd16LE m3aArray16 where
  zero _ _ _ := rfl
  succ _ _ _ _ := by rw [m3aArray16]

theorem m3aArray32_feedsElements : FeedsElements 4 rd32LE m3aArray32 where
  zero _ _ _ := rfl
  succ _ _ _ _ := by rw [m3aArray32]

theorem m3aArray64_feedsElements : FeedsElements 8 rd64LE m3aArray64 where
  zero _ _ _ := rfl
  succ _ _ _ _ := by rw [m3aArray64]

namespace FeedsElements

variable {w width : Nat} {rd : Memory → Nat → BitVec w} {feed : Memory → Nat → Nat → M3aRegs → M3aRegs}
  (h : FeedsElements width rd feed)
include h

/-- Element `e` is the word at the address of the array and `width * e`. -/
theorem eq_foldl (m : Memory) (n a : Nat) (u : M3aRegs) : feed m n a u =
    (List.range n).foldl (fun u e => (List.range width).foldl
      (fun u i => m3aByte (byteOfWord (rd m (a + width * e)) i) u) u) u := by
  simp only [← m3aBytes_bytesLE]
  induction n generalizing a u with
  | zero => exact h.zero m a u
  | succ n ih =>
    rw [h.succ, ih, List.range_succ_eq_map, List.foldl_cons, List.foldl_map]
    simp only [Nat.mul_zero, Nat.add_zero, Nat.mul_succ, Nat.add_assoc, Nat.add_comm width]

/-- R210: with little-endian elements, the bytes are those of the range. -/
theorem eq_memRead (hrd : ∀ m a, rd m a = BitVec.ofNat w (leNat (memRead m a width))) (hw : 8 * width ≤ w)
    (m : Memory) (n a : Nat) (u : M3aRegs) : feed m n a u = m3aBytes (memRead m a (width * n)) u := by
  induction n generalizing a u with
  | zero => exact h.zero m a u
  | succ n ih =>
    rw [h.succ, ih, hrd, bytesLE_ofNat_leNat_memRead hw, ← m3aBytes_append, ← memRead_append, Nat.mul_succ,
      Nat.add_comm width]

variable {s : State} (hs : s.faulted = false) {p : Packet}
include hs

/-- An array update inside the buffer. -/
theorem shellArray_eq_foldl (hin : addrOf p.ops + width * countOf p.ops ≤ s.mem.size) :
    shellArray width feed false p s = .next (s.setU4 ((List.range (countOf p.ops)).foldl
      (fun u e => (List.range width).foldl
        (fun u i => m3aByte (byteOfWord (rd s.mem (addrOf p.ops + width * e)) i) u) u) s.u4)) := by
  rw [shellArray_of_inBounds width feed hs hin, h.eq_foldl]

/-- R209: an empty array makes the bounds check and nothing else. -/
theorem shellArray_of_empty (hb : countOf p.ops = 0) : shellArray width feed false p s =
    .next (if addrOf p.ops ≤ s.mem.size then s else faultEntry .bounds p s) := by
  have hbytes : addrOf p.ops + arrayBytes width p.ops = addrOf p.ops := by
    rw [arrayBytes, hb, Nat.mul_zero, Nat.add_zero]
  split
  · rw [shellArray_of_inBounds width feed hs (by rwa [hbytes]), hb, h.zero]
    rfl
  · exact shellArray_of_outOfBounds width feed hs (by rw [hbytes]; omega)

/-- R210: an array update inside the buffer is the range update over its bytes. -/
theorem shellArray_and_updr (hrd : ∀ m a, rd m a = BitVec.ofNat w (leNat (memRead m a width))) (hw : 8 * width ≤ w)
    (hin : addrOf p.ops + width * countOf p.ops ≤ s.mem.size) (hfits : width * countOf p.ops < 2 ^ 64) :
    ∃ t : State, shellArray width feed false p s = .next t
      ∧ exec (.updrM3a ⟨p.ops.a, BitVec.ofNat 64 width * p.ops.b⟩) s = .next t := by
  have hcount : countOf ⟨p.ops.a, BitVec.ofNat 64 width * p.ops.b⟩ = width * countOf p.ops := by
    rw [countOf, BitVec.toNat_mul, BitVec.toNat_ofNat, Nat.mod_mul_mod]
    exact Nat.mod_eq_of_lt hfits
  have hupdr := exec_updrOf_of_inBounds hs (op := ⟨p.ops.a, BitVec.ofNat 64 width * p.ops.b⟩)
    (by rw [hcount]; exact hin) .m3a
  rw [hcount] at hupdr
  refine ⟨_, ?_, hupdr⟩
  rw [shellArray_of_inBounds width feed hs hin, h.eq_memRead hrd hw]
  rfl

end FeedsElements

/-- Settles O37: each array update is its shell, over elements in index order. -/
theorem m3aArrayUpdates : Obligations.M3aArrayUpdates := by
  intro s op hs
  refine ⟨decode_of_encode_eq rfl, fun hin => ?_, fun hout => ?_, decode_of_encode_eq rfl, ?_,
    decode_of_encode_eq rfl, fun hin => ?_, fun hout => ?_, decode_of_encode_eq rfl, ?_,
    decode_of_encode_eq rfl, fun hin => ?_, fun hout => ?_, decode_of_encode_eq rfl, ?_⟩
  · exact m3aArray16_feedsElements.shellArray_eq_foldl hs hin
  · exact shellArray_of_outOfBounds 2 m3aArray16 hs hout
  · exact shellArray_of_null 2 m3aArray16 _ s
  · exact m3aArray32_feedsElements.shellArray_eq_foldl hs hin
  · exact shellArray_of_outOfBounds 4 m3aArray32 hs hout
  · exact shellArray_of_null 4 m3aArray32 _ s
  · exact m3aArray64_feedsElements.shellArray_eq_foldl hs hin
  · exact shellArray_of_outOfBounds 8 m3aArray64 hs hout
  · exact shellArray_of_null 8 m3aArray64 _ s

/-- Settles O38: the null form comes before every check, and an empty array ends at the bounds check. -/
theorem m3aNullArrays : Obligations.M3aNullArrays := by
  intro s op
  refine ⟨shellArray_of_null 2 m3aArray16 _ s, shellArray_of_null 4 m3aArray32 _ s,
    shellArray_of_null 8 m3aArray64 _ s, fun hs hb => ?_⟩
  have hcount : countOf op = 0 := by rw [countOf, hb]; rfl
  have h16 := m3aArray16_feedsElements.shellArray_of_empty hs (p := encode (.upda16M3a false op)) hcount
  have h32 := m3aArray32_feedsElements.shellArray_of_empty hs (p := encode (.upda32M3a false op)) hcount
  have h64 := m3aArray64_feedsElements.shellArray_of_empty hs (p := encode (.upda64M3a false op)) hcount
  rw [exec_upda16M3a, exec_upda32M3a, exec_upda64M3a, h16, h32, h64]
  by_cases hin : op.a.toNat ≤ s.mem.size
  · rw [if_pos hin]
    exact ⟨congrArg _ (if_pos hin), congrArg _ (if_pos hin), congrArg _ (if_pos hin)⟩
  · rw [if_neg hin]
    exact ⟨congrArg _ (if_neg hin), congrArg _ (if_neg hin), congrArg _ (if_neg hin)⟩

/-! ## The same bytes one at a time (R210, R240) -/

/-- The byte walk over one byte: on unit 5 the `FINV <- 0` that ends it does not show. -/
theorem bytesUnit_singleton (k : HashUnit) (b : Byte) (s : State) : bytesUnit k [b] s = byteUnit k b s := by
  cases k
  case m3f => exact congrArg s.setU5 (by rw [m3fBytes_cons, m3fBytes, List.foldl_nil, ← m3fByte_finv b s.u5])
  all_goals rfl

theorem foldl_byteUnit (k : HashUnit) (b : Byte) (bs : List Byte) (s : State) :
    (b :: bs).foldl (fun s b => byteUnit k b s) s = bytesUnit k (b :: bs) s := by
  induction bs generalizing b s with
  | nil => exact (bytesUnit_singleton k b s).symm
  | cons c cs ih => rw [List.foldl_cons, ih, bytesUnit_cons_all k b]

/-- Single bytes, at least one, are the byte walk over them. -/
theorem execAll_updbOf_eq_bytesUnit {s : State} (hs : s.faulted = false) (k : HashUnit) (op : Operands)
    {bs : List Byte} (hbs : bs ≠ []) :
    execAll (bs.map fun b => updbOf k b op) s = .next (bytesUnit k bs s) := by
  obtain ⟨b, bs, rfl⟩ := List.exists_cons_of_ne_nil hbs
  rw [execAll_updbOf hs, foldl_byteUnit]

/-- Settles O52: both sides are the byte walk over the same bytes. -/
theorem typedUpdatesAreByteUpdates : Obligations.TypedUpdatesAreByteUpdates := by
  intro s op hs byteM3a byteM3f swapped
  have hswapped : bytesLE 8 swapped = bytesBE 8 op.a := bytesLE_swapped 8 (by decide) op.a
  have hbig : exec (.upd64M3f true op) s = .next (bytesUnit .m3f (bytesBE 8 op.a) s) :=
    exec_upd64M3f_of_live hs op true
  have hlittle : exec (.upd64M3f false ⟨swapped, op.b⟩) s = .next (bytesUnit .m3f (bytesBE 8 op.a) s) := by
    rw [← hswapped]
    exact exec_upd64M3f_of_live hs ⟨swapped, op.b⟩ false
  have hbytes {k : HashUnit} {bs : List Byte} (hbs : bs ≠ []) := execAll_updbOf_eq_bytesUnit hs k op hbs
  refine ⟨⟨_, exec_upd16M3a_of_live hs op, ?_⟩, ⟨_, exec_upd32M3a_of_live hs op, ?_⟩,
    ⟨_, exec_upd64M3a_of_live hs op, ?_⟩, fun hin hfits => ?_, fun hin hfits => ?_, fun hin hfits => ?_,
    ⟨_, exec_upd64M3f_of_live hs op false, ?_⟩, ⟨_, hbig, ?_, hlittle⟩⟩
  · exact hbytes (k := .m3a) (bs := bytesLE 2 op.a) (List.cons_ne_nil _ _)
  · exact hbytes (k := .m3a) (bs := bytesLE 4 op.a) (List.cons_ne_nil _ _)
  · exact hbytes (k := .m3a) (bs := bytesLE 8 op.a) (List.cons_ne_nil _ _)
  · exact m3aArray16_feedsElements.shellArray_and_updr hs (fun _ _ => rfl) (by decide) hin hfits
  · exact m3aArray32_feedsElements.shellArray_and_updr hs (fun _ _ => rfl) (by decide) hin hfits
  · exact m3aArray64_feedsElements.shellArray_and_updr hs (fun _ _ => rfl) (by decide) hin hfits
  · exact hbytes (k := .m3f) (bs := bytesLE 8 op.a) (List.cons_ne_nil _ _)
  · exact hbytes (k := .m3f) (bs := bytesBE 8 op.a) (List.cons_ne_nil _ _)

end Sys2Proof.Machine
end

section
/-!
SUPPORT. The datapaths of units 4 and 5 (R196, R228): their three phases are those of a block unit, and their full-block
update is the byte walk over the block. The second phase of unit 5 does not clear `FINV` as the byte walk does, which
the clearing at the end of the datapath hides.
-/

namespace Sys2Proof.Machine

theorem ofNat_two_pow_mul (w k x : Nat) : BitVec.ofNat w (2 ^ k * x) = BitVec.ofNat w x <<< k := by
  refine BitVec.eq_of_toNat_eq ?_
  rw [BitVec.toNat_shiftLeft, BitVec.toNat_ofNat, BitVec.toNat_ofNat, Nat.shiftLeft_eq, Nat.mod_mul_mod, Nat.mul_comm]

/-- One more byte of a little-endian word, put at its place. -/
theorem place_leNat_memRead (w : Nat) (m : Memory) (j n : Nat) :
    BitVec.ofNat w (leNat (memRead m j n)) ||| (m.byteAt (j + n)).setWidth w <<< (8 * n)
      = BitVec.ofNat w (leNat (memRead m j (n + 1))) := by
  have hlt : leNat (memRead m j n) < 2 ^ (8 * n) := by
    have h := leNat_lt (memRead m j n)
    rwa [pow_256_eq, memRead_length] at h
  rw [memRead_concat, leNat_concat, memRead_length, pow_256_eq, Nat.two_pow_add_eq_or_of_lt hlt, BitVec.ofNat_or,
    BitVec.or_comm, ofNat_two_pow_mul, BitVec.ofNat_toNat]

/-! ## Unit 4 -/

/-- Unit 4 as a block unit (R194, R196). -/
def m3aUnit : BlockUnit M3aRegs 2 where
  pos u := u.ppos
  byte := m3aByte
  block m j u := { u with h1 := applyK1 (rd32LE m j) u.h1, len := u.len + 4#32 }

theorem m3aUnit_pos (u : M3aRegs) : m3aUnit.pos u = u.ppos := rfl

theorem m3aUnit_byte (b : Byte) (u : M3aRegs) : m3aUnit.byte b u = m3aByte b u := rfl

theorem m3aUnit_block (m : Memory) (j : Nat) (u : M3aRegs) : m3aUnit.block m j u =
    { u with h1 := applyK1 (rd32LE m j) u.h1, len := u.len + 4#32 } := by
  rw [m3aUnit]

theorem m3aDrain_eq (m : Memory) (n i : Nat) (u : M3aRegs) : m3aDrain m n i u = m3aUnit.drain m n i u := by
  induction n generalizing i u with
  | zero => rfl
  | succ n ih => rw [m3aDrain, ih, BlockUnit.drain, m3aUnit_pos, m3aUnit_byte]

/-- One block of the second phase. It is read off the definition as a whole, since comparing the two sides by
evaluation would multiply by the constants of the mix. -/
theorem m3aBlocks_succ (m : Memory) (k j : Nat) (u : M3aRegs) : m3aBlocks m (k + 1) j u =
    m3aBlocks m k (j + 4) { u with h1 := applyK1 (rd32LE m j) u.h1, len := u.len + 4#32 } := by
  rw [m3aBlocks.eq_def]

theorem m3aBlocks_eq (m : Memory) (k j : Nat) (u : M3aRegs) : m3aBlocks m k j u = m3aUnit.blocks m k j u := by
  induction k generalizing j u with
  | zero => rfl
  | succ k ih => rw [m3aBlocks_succ, ih, BlockUnit.blocks, m3aUnit_block, show 2 ^ 2 = 4 from rfl]

theorem m3aTail_eq (m : Memory) (n i : Nat) (u : M3aRegs) : m3aTail m n i u = m3aUnit.walk m n i u := by
  induction n generalizing i u with
  | zero => rfl
  | succ n ih => rw [m3aTail, ih, BlockUnit.walk, m3aUnit_byte]

theorem m3aDatapath_eq (m : Memory) (a n : Nat) (u : M3aRegs) : m3aDatapath m a n u = m3aUnit.datapath m a n u := by
  simp only [m3aDatapath, m3aDrain_eq, m3aBlocks_eq, m3aTail_eq, BlockUnit.datapath, Nat.reducePow]

/-- The part of R36 (c) that the full-block update needs: no byte is pending at a block boundary. -/
def M3aRegs.NonePending (u : M3aRegs) : Prop := u.ppos = 0#2 → u.pk1 = 0#32

theorem m3aByte_nonePending (b : Byte) (u : M3aRegs) : (m3aByte b u).NonePending := by
  intro hpos
  rw [m3aByte_ppos] at hpos
  have hlast : u.ppos = 3#2 := by bv_omega
  rw [m3aByte_pk1, if_pos hlast]

/-- R194: the unit inside an input block, `n` bytes after its boundary. -/
theorem m3aUnit_walk_inside (m : Memory) (j : Nat) {u : M3aRegs} (hpk : u.pk1 = 0#32) (hpos : u.ppos = 0#2)
    {n : Nat} (hn : n < 4) : m3aUnit.walk m n j u = { u with
      len := u.len + BitVec.ofNat 32 n
      pk1 := BitVec.ofNat 32 (leNat (memRead m j n))
      ppos := BitVec.ofNat 2 n } := by
  induction n with
  | zero =>
    rw [ofNat_leNat_memRead_zero, BitVec.add_zero, ← hpk, ← hpos]
    rfl
  | succ n ih =>
    have hne : BitVec.ofNat 2 n ≠ 3#2 := by bv_omega
    have hplace : (BitVec.ofNat 2 n).toNat = n := by rw [BitVec.toNat_ofNat]; omega
    rw [BlockUnit.walk_concat, ih (by omega), m3aUnit_byte, m3aByte, if_neg hne, m3aPlace, hplace,
      place_leNat_memRead, BitVec.add_assoc, ← BitVec.ofNat_add, ← BitVec.ofNat_add]

/-- R194, R196: the bytes of a block are one mix of their little-endian word. -/
theorem m3aUnit_block_eq_walk (m : Memory) (j : Nat) {u : M3aRegs} (hpk : u.pk1 = 0#32) (hpos : u.ppos = 0#2) :
    m3aUnit.block m j u = m3aUnit.walk m 4 j u := by
  have hword : BitVec.ofNat 32 (leNat (memRead m j 3))
      ||| (m.byteAt (j + 3)).setWidth 32 <<< (8 * (BitVec.ofNat 2 3).toNat) = rd32LE m j :=
    place_leNat_memRead 32 m j 3
  rw [BlockUnit.walk_concat, m3aUnit_walk_inside m j hpk hpos (by decide), m3aUnit_byte, m3aByte, if_pos rfl,
    m3aPlace, hword, m3aUnit_block, hpk, hpos, BitVec.add_assoc, ← BitVec.ofNat_add]

theorem m3aUnit_correct : m3aUnit.Correct M3aRegs.NonePending where
  pos_byte := m3aByte_ppos
  good_byte b u _ := m3aByte_nonePending b u
  block_eq_walk m j _ hu hpos := m3aUnit_block_eq_walk m j (hu hpos) hpos

/-- R196: the datapath of unit 4 is the range update. -/
theorem m3aDatapath_eq_m3aBytes (m : Memory) (a n : Nat) {u : M3aRegs} (hu : u.NonePending) :
    m3aDatapath m a n u = m3aBytes (memRead m a n) u := by
  rw [m3aDatapath_eq, m3aUnit_correct.datapath_eq_walk m a n hu, BlockUnit.walk_eq_foldl]
  rfl

/-! ## Unit 5 -/

/-- The unit with its cache invalid. -/
def M3fRegs.dropCache (u : M3fRegs) : M3fRegs := { u with finv := false }

/-- Unit 5 as a block unit (R225, R228). Its full-block update clears `FINV` as a byte does, which that of R228 does
not; `m3fDatapath_eq` says that the difference does not show. -/
def m3fUnit : BlockUnit M3fRegs 4 where
  pos u := u.ppos
  byte := m3fByte
  block m j u :=
    let lanes := applyKs (rd64LE m j) (rd64LE m (j + 8)) u.h1 u.h2
    { u with h1 := lanes.1, h2 := lanes.2, len := u.len + 16#64, finv := false }

theorem m3fUnit_pos (u : M3fRegs) : m3fUnit.pos u = u.ppos := rfl

theorem m3fUnit_byte (b : Byte) (u : M3fRegs) : m3fUnit.byte b u = m3fByte b u := rfl

theorem m3fUnit_block (m : Memory) (j : Nat) (u : M3fRegs) : m3fUnit.block m j u =
    let lanes := applyKs (rd64LE m j) (rd64LE m (j + 8)) u.h1 u.h2
    { u with h1 := lanes.1, h2 := lanes.2, len := u.len + 16#64, finv := false } := by
  rw [m3fUnit]

theorem m3fDrain_eq (m : Memory) (n i : Nat) (u : M3fRegs) : m3fDrain m n i u = m3fUnit.drain m n i u := by
  induction n generalizing i u with
  | zero => rfl
  | succ n ih => rw [m3fDrain, ih, BlockUnit.drain, m3fUnit_pos, m3fUnit_byte]

theorem m3fTail_eq (m : Memory) (n i : Nat) (u : M3fRegs) : m3fTail m n i u = m3fUnit.walk m n i u := by
  induction n generalizing i u with
  | zero => rfl
  | succ n ih => rw [m3fTail, ih, BlockUnit.walk, m3fUnit_byte]

/-- A byte does not look at the cache. -/
theorem m3fByte_dropCache (b : Byte) (u : M3fRegs) : m3fByte b u.dropCache = m3fByte b u := by
  unfold m3fByte M3fRegs.dropCache m3fPlace1 m3fPlace2
  rfl

theorem m3fUnit_block_dropCache (m : Memory) (j : Nat) (u : M3fRegs) :
    m3fUnit.block m j u.dropCache = m3fUnit.block m j u := by
  rw [m3fUnit_block, m3fUnit_block, M3fRegs.dropCache]

theorem dropCache_walk (m : Memory) (n i : Nat) (u : M3fRegs) :
    (m3fUnit.walk m n i u.dropCache).dropCache = (m3fUnit.walk m n i u).dropCache := by
  cases n with
  | zero => rfl
  | succ n => rw [BlockUnit.walk, BlockUnit.walk, m3fUnit_byte, m3fUnit_byte, m3fByte_dropCache]

theorem dropCache_blocks (m : Memory) (k j : Nat) (u : M3fRegs) :
    (m3fUnit.blocks m k j u.dropCache).dropCache = (m3fUnit.blocks m k j u).dropCache := by
  cases k with
  | zero => rfl
  | succ k => rw [BlockUnit.blocks, BlockUnit.blocks, m3fUnit_block_dropCache]

/-- One block of the second phase, which leaves `FINV` alone. It is read off the definition as a whole, since comparing
the two sides by evaluation would multiply by the constants of the mix. -/
theorem m3fBlocks_succ (m : Memory) (k j : Nat) (u : M3fRegs) : ∃ v : M3fRegs,
    m3fBlocks m (k + 1) j u = m3fBlocks m k (j + 16) v ∧ v.dropCache = m3fUnit.block m j u :=
  ⟨_, by rw [m3fBlocks.eq_def], by rw [m3fUnit_block, M3fRegs.dropCache]⟩

theorem m3fBlocks_dropCache (m : Memory) (k j : Nat) (u : M3fRegs) :
    (m3fBlocks m k j u).dropCache = (m3fUnit.blocks m k j u).dropCache := by
  induction k generalizing j u with
  | zero => rfl
  | succ k ih =>
    obtain ⟨v, hblocks, hv⟩ := m3fBlocks_succ m k j u
    rw [hblocks, ih, ← dropCache_blocks, hv, BlockUnit.blocks, show 2 ^ 4 = 16 from rfl]

/-- The three phases of R228 are those of the block unit, up to `FINV`, which both end by clearing. -/
theorem m3fDatapath_eq (m : Memory) (a n : Nat) (u : M3fRegs) :
    m3fDatapath m a n u = (m3fUnit.datapath m a n u).dropCache := by
  have hpath : m3fDatapath m a n u =
      let (u1, i, left) := m3fUnit.drain m n a u
      (m3fUnit.walk m (left % 16) (i + 16 * (left / 16)) (m3fBlocks m (left / 16) i u1)).dropCache := by
    simp only [m3fDatapath, m3fDrain_eq, m3fTail_eq, M3fRegs.dropCache]
  rw [hpath, BlockUnit.datapath, show 2 ^ 4 = 16 from rfl]
  dsimp only
  rw [← dropCache_walk, m3fBlocks_dropCache, dropCache_walk]

/-- The part of R36 (d) that the full-block update needs: no byte is pending at a block boundary, and none in the second
half of a block before its ninth byte. -/
def M3fRegs.NonePending (u : M3fRegs) : Prop :=
  (u.ppos = 0#4 → u.pk1 = 0#64) ∧ (u.ppos.toNat ≤ 8 → u.pk2 = 0#64)

theorem m3fByte_nonePending (b : Byte) {u : M3fRegs} (hu : u.NonePending) : (m3fByte b u).NonePending := by
  refine ⟨fun hpos => ?_, fun hpos => ?_⟩
  · rw [m3fByte_ppos] at hpos
    have hlast : u.ppos = 15#4 := by bv_omega
    rw [m3fByte_pk1, if_pos hlast]
  · rw [m3fByte_ppos] at hpos
    rw [m3fByte_pk2]
    split
    · rfl
    · rename_i hne
      have hlow : u.ppos.toNat < 8 := by bv_omega
      rw [m3fPlace2, if_pos hlow]
      exact hu.2 hlow.le

/-- R225: the unit `n` bytes into the input block at address `j`, the first 8 of them in `PK1`, the others in `PK2`. -/
def M3fRegs.into (m : Memory) (j n : Nat) (u : M3fRegs) : M3fRegs :=
  { u with
    len := u.len + BitVec.ofNat 64 n
    pk1 := BitVec.ofNat 64 (leNat (memRead m j (min n 8)))
    pk2 := BitVec.ofNat 64 (leNat (memRead m (j + 8) (n - 8)))
    ppos := BitVec.ofNat 4 n
    finv := false }

theorem M3fRegs.into_zero (m : Memory) (j : Nat) {u : M3fRegs} (hpk1 : u.pk1 = 0#64) (hpk2 : u.pk2 = 0#64)
    (hpos : u.ppos = 0#4) : u.into m j 0 = u.dropCache := by
  simp only [into, dropCache, Nat.zero_min, Nat.zero_sub, ofNat_leNat_memRead_zero, BitVec.add_zero, hpk1, hpk2, hpos]

/-- The next byte of the block goes to the half that its place is in. -/
theorem m3fPlace_into (m : Memory) (j : Nat) {n : Nat} (hn : n < 16) (u : M3fRegs) :
    m3fPlace1 (m.byteAt (j + n)) (u.into m j n) = BitVec.ofNat 64 (leNat (memRead m j (min (n + 1) 8)))
    ∧ m3fPlace2 (m.byteAt (j + n)) (u.into m j n) = BitVec.ofNat 64 (leNat (memRead m (j + 8) (n + 1 - 8))) := by
  have hplace : (u.into m j n).ppos.toNat = n := Nat.mod_eq_of_lt hn
  rw [m3fPlace1, m3fPlace2, hplace, M3fRegs.into]
  by_cases hlow : n < 8
  · rw [if_pos hlow, if_pos hlow, Nat.min_eq_left (by omega), Nat.min_eq_left (by omega), place_leNat_memRead,
      Nat.sub_eq_zero_of_le (by omega), Nat.sub_eq_zero_of_le (by omega)]
    exact ⟨rfl, rfl⟩
  · have haddr : j + n = j + 8 + (n - 8) := by omega
    rw [if_neg hlow, if_neg hlow, Nat.min_eq_right (by omega), Nat.min_eq_right (by omega), haddr,
      place_leNat_memRead, Nat.sub_add_comm (by omega)]
    exact ⟨rfl, rfl⟩

theorem m3fByte_into (m : Memory) (j : Nat) {n : Nat} (hn : n < 15) (u : M3fRegs) :
    m3fByte (m.byteAt (j + n)) (u.into m j n) = u.into m j (n + 1) := by
  obtain ⟨hplace1, hplace2⟩ := m3fPlace_into m j (show n < 16 by omega) u
  have hne : (u.into m j n).ppos ≠ 15#4 := by
    change BitVec.ofNat 4 n ≠ 15#4
    bv_omega
  rw [m3fByte, if_neg hne, hplace1, hplace2, M3fRegs.into, M3fRegs.into, BitVec.add_assoc, ← BitVec.ofNat_add,
    ← BitVec.ofNat_add]

/-- R110, R225: the sixteenth byte of a block mixes in its two little-endian words. -/
theorem m3fByte_into_last (m : Memory) (j : Nat) {u : M3fRegs} (hpk1 : u.pk1 = 0#64) (hpk2 : u.pk2 = 0#64)
    (hpos : u.ppos = 0#4) : m3fByte (m.byteAt (j + 15)) (u.into m j 15) = m3fUnit.block m j u := by
  obtain ⟨hplace1, hplace2⟩ := m3fPlace_into m j (n := 15) (by decide) u
  have hlast : (u.into m j 15).ppos = 15#4 := rfl
  rw [m3fByte, if_pos hlast, hplace1, hplace2, M3fRegs.into, m3fUnit_block, hpk1, hpk2, hpos]
  dsimp only
  rw [BitVec.add_assoc, ← BitVec.ofNat_add]
  rfl

/-- R225: the unit inside an input block. Before the first byte the cache may still be valid. -/
theorem m3fUnit_walk_inside (m : Memory) (j : Nat) {u : M3fRegs} (hpk1 : u.pk1 = 0#64) (hpk2 : u.pk2 = 0#64)
    (hpos : u.ppos = 0#4) {n : Nat} (hn : n < 16) : (m3fUnit.walk m n j u).dropCache = u.into m j n := by
  induction n with
  | zero => exact (M3fRegs.into_zero m j hpk1 hpk2 hpos).symm
  | succ n ih =>
    rw [BlockUnit.walk_concat, m3fUnit_byte, ← m3fByte_dropCache, ih (by omega), m3fByte_into m j (by omega),
      M3fRegs.dropCache, M3fRegs.into]

/-- R225, R228: the bytes of a block are one update of the lanes by its two words. -/
theorem m3fUnit_block_eq_walk (m : Memory) (j : Nat) {u : M3fRegs} (hpk1 : u.pk1 = 0#64) (hpk2 : u.pk2 = 0#64)
    (hpos : u.ppos = 0#4) : m3fUnit.block m j u = m3fUnit.walk m 16 j u := by
  rw [BlockUnit.walk_concat, m3fUnit_byte, ← m3fByte_dropCache, m3fUnit_walk_inside m j hpk1 hpk2 hpos (by decide),
    m3fByte_into_last m j hpk1 hpk2 hpos]

theorem m3fUnit_correct : m3fUnit.Correct M3fRegs.NonePending where
  pos_byte := m3fByte_ppos
  good_byte b _ hu := m3fByte_nonePending b hu
  block_eq_walk m j u hu hpos := by
    obtain ⟨hpk1, hpk2⟩ := hu
    have hfirst : u.ppos.toNat ≤ 8 := by rw [← m3fUnit_pos, hpos]; decide
    exact m3fUnit_block_eq_walk m j (hpk1 hpos) (hpk2 hfirst) hpos

/-- R228: the datapath of unit 5 is the range update. -/
theorem m3fDatapath_eq_m3fBytes (m : Memory) (a n : Nat) {u : M3fRegs} (hu : u.NonePending) :
    m3fDatapath m a n u = m3fBytes (memRead m a n) u := by
  rw [m3fDatapath_eq, m3fUnit_correct.datapath_eq_walk m a n hu, BlockUnit.walk_eq_foldl, m3fBytes, M3fRegs.dropCache]
  rfl

/-! ## The claim -/

/-- Settles O48: both sides are the byte walk over the range. -/
theorem murmurDatapath : Obligations.MurmurDatapath := by
  intro s op hs hin
  refine ⟨fun h4 => ?_, fun hpk1 hpk2 => ?_⟩
  · rw [m3aDatapath_eq_m3aBytes _ _ _ h4]
    exact exec_updrOf_of_inBounds hs hin .m3a
  · rw [m3fDatapath_eq_m3fBytes _ _ _ ⟨hpk1, hpk2⟩]
    exact exec_updrOf_of_inBounds hs hin .m3f

end Sys2Proof.Machine
end

section
/-!
SUPPORT. Unit 5, M3F (spec/45_murmur3_128.md): the mixes, the avalanche and the registers its procedures leave with the
constants of R9 written out, and construction, updates and the finalised lanes as commands.
-/

namespace Sys2Proof.Machine

/-! ## The functions (R220 to R223) -/

theorem mixK1_eq (k : Word64) :
    mixK1 k = (k * 0x87C37B91114253D5#64).rotateLeft 31 * 0x4CF5AD432745937F#64 := by
  rw [mixK1, rotl64_eq_rotateLeft _ _ (by decide), m64C1, m64C2]

theorem mixK2_eq (k : Word64) :
    mixK2 k = (k * 0x4CF5AD432745937F#64).rotateLeft 33 * 0x87C37B91114253D5#64 := by
  rw [mixK2, rotl64_eq_rotateLeft _ _ (by decide), m64C1, m64C2]

theorem applyKs_eq (k1 k2 h1 h2 : Word64) : applyKs k1 k2 h1 h2 =
    let h1 := ((h1 ^^^ mixK1 k1).rotateLeft 27 + h2) * 5#64 + 0x0000000052DCE729#64
    (h1, ((h2 ^^^ mixK2 k2).rotateLeft 31 + h1) * 5#64 + 0x0000000038495AB5#64) := by
  simp only [applyKs, rotl64_eq_rotateLeft _ 27 (by decide), rotl64_eq_rotateLeft _ 31 (by decide), m64N1, m64N2]

theorem fmix64_eq (k : Word64) : fmix64 k =
    let k := (k ^^^ k >>> 33) * 0xFF51AFD7ED558CCD#64
    let k := (k ^^^ k >>> 33) * 0xC4CEB9FE1A85EC53#64
    k ^^^ k >>> 33 := by
  rw [fmix64, m64F1, m64F2]

/-! ## The registers after the procedures (R224 to R226) -/

theorem m3fReset_eq (u : M3fRegs) : m3fReset u =
    ⟨u.seed, u.seed.setWidth 64, u.seed.setWidth 64, 0#64, 0#64, 0#64, 0#4, false, u.finlo, u.finhi⟩ := by
  rw [m3fReset]

/-- R224: extending the low half of a word by zeros is masking it. -/
theorem setWidth64_setWidth32 (x : Word64) : (x.setWidth 32).setWidth 64 = x &&& 0x00000000FFFFFFFF#64 := by
  refine BitVec.eq_of_toNat_eq ?_
  have hmask : x.toNat &&& (2 ^ 32 - 1) = x.toNat % 2 ^ 32 := Nat.and_two_pow_sub_one_eq_mod x.toNat 32
  rw [BitVec.toNat_setWidth, BitVec.toNat_setWidth, BitVec.toNat_and]
  change x.toNat % 2 ^ 32 % 2 ^ 64 = x.toNat &&& (2 ^ 32 - 1)
  omega

theorem m3fByte_eq (b : Byte) (u : M3fRegs) : m3fByte b u =
    let pk1 := if u.ppos.toNat < 8 then u.pk1 ||| b.setWidth 64 <<< (8 * u.ppos.toNat) else u.pk1
    let pk2 := if u.ppos.toNat < 8 then u.pk2 else u.pk2 ||| b.setWidth 64 <<< (8 * (u.ppos.toNat - 8))
    let h1 := ((u.h1 ^^^ mixK1 pk1).rotateLeft 27 + u.h2) * 5#64 + 0x0000000052DCE729#64
    let h2 := ((u.h2 ^^^ mixK2 pk2).rotateLeft 31 + h1) * 5#64 + 0x0000000038495AB5#64
    if u.ppos = 15#4 then
      { u with
        h1 := h1, h2 := h2, len := u.len + 1#64, pk1 := 0#64, pk2 := 0#64, ppos := 0#4, finv := false }
    else { u with len := u.len + 1#64, pk1 := pk1, pk2 := pk2, ppos := u.ppos + 1#4, finv := false } := by
  rw [m3fByte, m3fPlace1, m3fPlace2, applyKs_eq]

/-- The `FINV <- 0` that ends a range update does not show after at least one byte. -/
theorem m3fBytes_of_ne_nil {bs : List Byte} (hbs : bs ≠ []) (u : M3fRegs) :
    m3fBytes bs u = bs.foldl (fun u b => m3fByte b u) u := by
  have hfinv : (bs.foldl (fun u b => m3fByte b u) u).finv = false := by
    rw [← List.dropLast_concat_getLast hbs, List.foldl_append]
    exact m3fByte_finv _ _
  rw [m3fBytes, ← hfinv]

theorem m3fBytes_memRead (m : Memory) (a n : Nat) (u : M3fRegs) : m3fBytes (memRead m a n) u =
    { (List.range n).foldl (fun u i => m3fByte (m.byteAt (a + i)) u) u with finv := false } := by
  rw [m3fBytes, foldl_memRead]

/-- R240: the bytes of the value by their numbers, in the order of `E`. -/
theorem m3fBytes_upd64 (e : Bool) (x : Word64) (u : M3fRegs) :
    m3fBytes (if e then bytesBE 8 x else bytesLE 8 x) u =
      (if e then [7, 6, 5, 4, 3, 2, 1, 0] else [0, 1, 2, 3, 4, 5, 6, 7]).foldl
        (fun u i => m3fByte (byteOfWord x i) u) u := by
  have hbytes : (if e then bytesBE 8 x else bytesLE 8 x) =
      (if e then [7, 6, 5, 4, 3, 2, 1, 0] else [0, 1, 2, 3, 4, 5, 6, 7]).map (byteOfWord x) := by
    cases e <;> rfl
  rw [hbytes, m3fBytes_of_ne_nil (by cases e <;> exact List.cons_ne_nil _ _), List.foldl_map]

theorem m3fFinish_fst_eq (u : M3fRegs) :
    (m3fFinish u).1 = if u.finv then (u.finlo, u.finhi) else m3fFinal u := by
  rw [m3fFinish]
  split <;> rfl

/-- R226: `Finish_5` leaves a valid cache that holds the lanes it gives. -/
theorem m3fFinish_snd_eq (u : M3fRegs) :
    (m3fFinish u).2 = { u with finv := true, finlo := (m3fFinish u).1.1, finhi := (m3fFinish u).1.2 } := by
  cases hv : u.finv
  · rw [m3fFinish_of_invalid hv]
  · rw [m3fFinish_of_valid hv, ← hv]

/-! ## The unit after a command -/

theorem resetUnit_m3f (s : State) : resetUnit .m3f s = s.setU5
    ⟨s.u5.seed, s.u5.seed.setWidth 64, s.u5.seed.setWidth 64, 0#64, 0#64, 0#64, 0#4, false, s.u5.finlo,
      s.u5.finhi⟩ :=
  congrArg s.setU5 (m3fReset_eq s.u5)

theorem byteUnit_m3f (b : Byte) (s : State) : byteUnit .m3f b s = s.setU5 (m3fByte b s.u5) := rfl

theorem bytesUnit_m3f (bs : List Byte) (s : State) : bytesUnit .m3f bs s = s.setU5 (m3fBytes bs s.u5) := rfl

/-- R226: what a value command of unit 5 does on a block without a fault. -/
theorem shellFinish_of_live {s : State} (hs : s.faulted = false) (write : Word64 → Word64 → State → State) :
    shellFinish write s = .next (write (m3fFinish s.u5).1.1 (m3fFinish s.u5).1.2 (s.setU5
      { s.u5 with finv := true, finlo := (m3fFinish s.u5).1.1, finhi := (m3fFinish s.u5).1.2 })) := by
  rw [shellFinish, whenLive_of_live hs, m3fFinish_snd_eq]

theorem exec_getvM3f (op : Operands) : exec (.getvM3f op) = shellFinish fun lo _ t => t.writeR0 lo := rfl

theorem exec_getvhM3f (op : Operands) : exec (.getvhM3f op) = shellFinish fun _ hi t => t.writeR0 hi := rfl

theorem exec_get128M3f (op : Operands) : exec (.get128M3f op) = shellFinish fun lo hi t => t.writeR01 lo hi := rfl

theorem encode_upd64M3f (e : Bool) (op : Operands) : encode (.upd64M3f e op) =
    ⟨0x12500000#32 ||| (BitVec.ofBool e).setWidth 32 <<< 16, op⟩ := by
  cases e <;> rfl

/-! ## The claims -/

/-- Settles O39: construction is the seed and then the registers from it. -/
theorem m3fConstruction : Obligations.M3fConstruction := by
  intro s op hs
  have hinit := exec_initOf_of_live hs .m3f op
  have hreset := exec_resetOf_of_live hs .m3f op
  rw [resetUnit_m3f] at hinit hreset
  rw [← setWidth64_setWidth32]
  exact ⟨decode_of_encode_eq rfl, hinit, decode_of_encode_eq rfl, hreset⟩

/-- Settles O40: each word is the encoding of its instruction, and a range or a typed update is a fold of the one-byte
update. -/
theorem m3fUpdates : Obligations.M3fUpdates := by
  unfold Obligations.M3fUpdates
  intro byteStep s b e op hs
  have hstep (b : Byte) (u : M3fRegs) : m3fByte b u = byteStep u b := by
    simp only [m3fByte_eq, mixK1_eq, mixK2_eq, byteStep]
  have hbyte := exec_updbOf_of_live hs .m3f b op
  rw [byteUnit_m3f, hstep] at hbyte
  have htyped := exec_upd64M3f_of_live hs op e
  simp only [bytesUnit_m3f, m3fBytes_upd64, hstep] at htyped
  refine ⟨decode_of_encode_eq rfl, hbyte, decode_of_encode_eq rfl, fun hin => ?_, fun hout => ?_,
    decode_of_encode_eq (encode_upd64M3f e op), htyped⟩
  · have hrange := exec_updrOf_of_inBounds hs hin .m3f
    simp only [bytesUnit_m3f, m3fBytes_memRead, hstep] at hrange
    exact hrange
  · exact exec_updrOf_of_outOfBounds hs hout .m3f

/-- Settles O41: the three commands write what `Finish_5` gives and leave the cache it fills. -/
theorem m3fValues : Obligations.M3fValues := by
  unfold Obligations.M3fValues
  intro lanes s op hs lo hi u5
  have hlanes : (m3fFinish s.u5).1 = lanes s.u5 := by
    simp only [m3fFinish_fst_eq, m3fFinal, m3fFolded, mixK1_eq, mixK2_eq, fmix64_eq, lanes]
  have hfinish (write : Word64 → Word64 → State → State) :
      shellFinish write s = .next (write lo hi (s.setU5 u5)) := by
    rw [shellFinish_of_live hs, hlanes]
  rw [exec_getvM3f, exec_getvhM3f, exec_get128M3f]
  exact ⟨decode_of_encode_eq rfl, hfinish _, decode_of_encode_eq rfl, hfinish _, decode_of_encode_eq rfl, hfinish _⟩

end Sys2Proof.Machine
end

section
/-!
SUPPORT. The 128-bit value of unit 5 as strings (R235, R237 to R239): a byte string is packed into a result register one
byte at its place after another, and the strings are the bytes of the value, in either order, and its hexadecimal
characters.
-/

namespace Sys2Proof.Machine

/-! ## Packing a string (R235) -/

/-- The word of `n` bytes, each put at its little-endian place. -/
theorem foldl_place (w n : Nat) (str : Nat → Byte) :
    (List.range n).foldl (fun x i => x ||| (str i).setWidth w <<< (8 * i)) 0#w
      = BitVec.ofNat w (leNat ((List.range n).map str)) := by
  induction n with
  | zero => rfl
  | succ n ih =>
    have hlt : leNat ((List.range n).map str) < 2 ^ (8 * n) := by
      have h := leNat_lt ((List.range n).map str)
      rwa [pow_256_eq, List.length_map, List.length_range] at h
    rw [List.range_succ, List.foldl_append, ih, List.map_append, List.map_singleton, leNat_concat, List.length_map,
      List.length_range, pow_256_eq, Nat.two_pow_add_eq_or_of_lt hlt, BitVec.ofNat_or, ofNat_two_pow_mul,
      BitVec.ofNat_toNat, BitVec.or_comm]
    rfl

/-- The part of a string that register `r` takes. -/
theorem take_drop_map_range {α : Type} {n r : Nat} (h : 8 * r + 8 ≤ n) (str : Nat → α) :
    (((List.range n).map str).drop (8 * r)).take 8 = (List.range 8).map fun i => str (8 * r + i) := by
  refine List.ext_getElem ?_ fun i hi _ => ?_
  · rw [List.length_take, List.length_drop, List.length_map, List.length_map, List.length_range, List.length_range]
    omega
  · simp

/-- R235: byte `j` of a string stands at bits `8*(j mod 8)` of `R[j div 8]`. -/
theorem packedWord_map_range {n r : Nat} (h : 8 * r + 8 ≤ n) (str : Nat → Byte) :
    packedWord ((List.range n).map str) r
      = (List.range 8).foldl (fun x i => x ||| (str (8 * r + i)).setWidth 64 <<< (8 * i)) 0#64 := by
  rw [packedWord, take_drop_map_range h, foldl_place]

/-! ## The strings (R237 to R239) -/

theorem stringLE_eq (lo hi : Word64) : stringLE lo hi =
    (List.range 16).map fun j => (hi ++ lo).extractLsb' (8 * j) 8 := rfl

theorem stringBE_eq (lo hi : Word64) : stringBE lo hi =
    (List.range 16).map fun j => (hi ++ lo).extractLsb' (8 * (15 - j)) 8 := rfl

theorem hexDigit_eq : ∀ d : BitVec 4, hexDigit d =
    BitVec.ofNat 8 (if d.toNat ≤ 9 then 0x30 + d.toNat else 0x61 + (d.toNat - 10)) := by decide

theorem hexString_eq (lo hi : Word64) : hexString lo hi = (List.range 32).map fun j =>
    let d := ((hi ++ lo).extractLsb' (124 - 4 * j) 4).toNat
    BitVec.ofNat 8 (if d ≤ 9 then 0x30 + d else 0x61 + (d - 10)) := by
  simp only [hexString, hexDigit_eq]

/-- The number of the low bytes of a word. -/
theorem leNat_bytesLE {w : Nat} (n : Nat) (x : BitVec w) : leNat (bytesLE n x) = x.toNat % 256 ^ n := by
  induction n with
  | zero => rw [Nat.pow_zero, Nat.mod_one]; rfl
  | succ n ih =>
    have hbyte : (byteOfWord x n).toNat = x.toNat / 256 ^ n % 256 := by
      rw [byteOfWord, BitVec.extractLsb'_toNat, Nat.shiftRight_eq_div_pow, pow_256_eq]
    have hlen : (bytesLE n x).length = n := by rw [bytesLE, List.length_map, List.length_range]
    have hlast : bytesLE (n + 1) x = bytesLE n x ++ [byteOfWord x n] := by
      rw [bytesLE, List.range_succ, List.map_append]
      rfl
    rw [hlast, leNat_concat, hlen, ih, hbyte, Nat.mod_pow_succ, Nat.add_comm]

/-- A 64-bit word is its eight bytes at their places. -/
theorem ofNat_leNat_bytesLE (x : Word64) : BitVec.ofNat 64 (leNat (bytesLE 8 x)) = x := by
  have hlt : x.toNat < 256 ^ 8 := x.isLt
  rw [leNat_bytesLE, Nat.mod_eq_of_lt hlt, BitVec.ofNat_toNat, BitVec.setWidth_eq]

theorem byteOfWord_append_low {v w i : Nat} (h : 8 * i + 8 ≤ w) (hi : BitVec v) (lo : BitVec w) :
    byteOfWord (hi ++ lo) i = byteOfWord lo i := by
  refine BitVec.eq_of_getLsbD_eq fun j hj => ?_
  simp [byteOfWord, BitVec.getLsbD_append, hj, show 8 * i + j < w by omega]

theorem byteOfWord_append_high {v w n : Nat} (h : w = 8 * n) (i : Nat) (hi : BitVec v) (lo : BitVec w) :
    byteOfWord (hi ++ lo) (n + i) = byteOfWord hi i := by
  refine BitVec.eq_of_getLsbD_eq fun j hj => ?_
  simp [byteOfWord, BitVec.getLsbD_append, hj, show ¬ 8 * (n + i) + j < w by omega,
    show 8 * (n + i) + j - w = 8 * i + j by omega]

theorem packedWord_stringLE {r : Nat} (h : r < 2) (lo hi : Word64) : packedWord (stringLE lo hi) r =
    BitVec.ofNat 64 (leNat ((List.range 8).map fun i => byteOfWord (hi ++ lo) (8 * r + i))) := by
  rw [packedWord, stringLE, bytesLE, take_drop_map_range (by omega)]

/-- R238: with the least significant byte first, the first register holds the low lane. -/
theorem packedWord_stringLE_zero (lo hi : Word64) : packedWord (stringLE lo hi) 0 = lo := by
  have hbytes : (List.range 8).map (fun i => byteOfWord (hi ++ lo) (8 * 0 + i)) = bytesLE 8 lo :=
    List.map_congr_left fun i hmem => by
      have hi8 := List.mem_range.1 hmem
      rw [Nat.mul_zero, Nat.zero_add, byteOfWord_append_low (by omega)]
  rw [packedWord_stringLE (by decide), hbytes, ofNat_leNat_bytesLE]

/-- R238: with the least significant byte first, the second register holds the high lane. -/
theorem packedWord_stringLE_one (lo hi : Word64) : packedWord (stringLE lo hi) 1 = hi := by
  have hbytes : (List.range 8).map (fun i => byteOfWord (hi ++ lo) (8 * 1 + i)) = bytesLE 8 hi :=
    List.map_congr_left fun i _ => byteOfWord_append_high (n := 8) (by decide) i hi lo
  rw [packedWord_stringLE (by decide), hbytes, ofNat_leNat_bytesLE]

/-! ## The claim -/

theorem exec_getbeM3f (op : Operands) : exec (.getbeM3f op) = shellFinish fun lo hi t =>
    t.writeR01 (packedWord (stringBE lo hi) 0) (packedWord (stringBE lo hi) 1) := rfl

theorem exec_getleM3f (op : Operands) : exec (.getleM3f op) = shellFinish fun lo hi t =>
    t.writeR01 (packedWord (stringLE lo hi) 0) (packedWord (stringLE lo hi) 1) := rfl

theorem exec_gethexM3f (op : Operands) : exec (.gethexM3f op) = shellFinish fun lo hi t =>
    t.writeString4 (hexString lo hi) := rfl

/-- Settles O42: each command is `Finish_5` and then a string of its lanes, packed byte by byte. -/
theorem m3fStrings : Obligations.M3fStrings := by
  intro s op hs
  obtain ⟨⟨lo, hi⟩, hlanes⟩ : ∃ lanes, (m3fFinish s.u5).1 = lanes := ⟨_, rfl⟩
  refine ⟨lo, hi, ?_⟩
  intro v u5 packed be le hex
  have hfinish (write : Word64 → Word64 → State → State) :
      shellFinish write s = .next (write lo hi (s.setU5 u5)) := by
    rw [shellFinish_of_live hs, hlanes]
  have hbe {r : Nat} (hr : r < 2) : packedWord (stringBE lo hi) r = packed be r := by
    rw [stringBE_eq, packedWord_map_range (by omega)]
  have hle {r : Nat} (hr : r < 2) : packedWord (stringLE lo hi) r = packed le r := by
    rw [stringLE_eq, packedWord_map_range (by omega)]
  have hhex {r : Nat} (hr : r < 4) : packedWord (hexString lo hi) r = packed hex r := by
    rw [hexString_eq, packedWord_map_range (by omega)]
  rw [exec_get128M3f, exec_getbeM3f, exec_getleM3f, exec_gethexM3f, hfinish, hfinish, hfinish, hfinish,
    ← hbe (r := 0) (by decide), ← hbe (r := 1) (by decide), ← hle (r := 0) (by decide), ← hle (r := 1) (by decide),
    ← hhex (r := 0) (by decide), ← hhex (r := 1) (by decide), ← hhex (r := 2) (by decide),
    ← hhex (r := 3) (by decide)]
  exact ⟨rfl, decode_of_encode_eq rfl, rfl, decode_of_encode_eq rfl, rfl, packedWord_stringLE_zero lo hi,
    packedWord_stringLE_one lo hi, decode_of_encode_eq rfl, rfl⟩

end Sys2Proof.Machine
end

section
/-!
SUPPORT. The packer's updates (R263 to R265). A procedure of a hashing unit reads and writes the registers of its own
unit only (`ChangesOnly`), so the procedures of two different units commute; a command of the packer is the same command
to its two units, which keep the fault registers and the buffer that the second of them looks at.
-/

namespace Sys2Proof.Machine

/-! ## The registers of one unit -/

/-- The register file of a hashing unit (R26 to R31). -/
def UnitRegs : HashUnit → Type
  | .fnv32 => Fnv32Regs
  | .fnv64 => Fnv64Regs
  | .fnvj32 => Fnvj32Regs
  | .fnvj64 => Fnvj64Regs
  | .m3a => M3aRegs
  | .m3f => M3fRegs

/-- The registers of a hashing unit in a state. -/
def State.unitRegs (s : State) : (k : HashUnit) → UnitRegs k
  | .fnv32 => s.u0
  | .fnv64 => s.u1
  | .fnvj32 => s.u2
  | .fnvj64 => s.u3
  | .m3a => s.u4
  | .m3f => s.u5

/-- Write the registers of a hashing unit. -/
def State.setUnitRegs (s : State) : (k : HashUnit) → UnitRegs k → State
  | .fnv32, x => s.setU0 x
  | .fnv64, x => s.setU1 x
  | .fnvj32, x => s.setU2 x
  | .fnvj64, x => s.setU3 x
  | .m3a, x => s.setU4 x
  | .m3f, x => s.setU5 x

theorem State.setUnitRegs_flt (s : State) (k : HashUnit) (x : UnitRegs k) : (s.setUnitRegs k x).flt = s.flt := by
  cases k <;> rfl

theorem State.setUnitRegs_mem (s : State) (k : HashUnit) (x : UnitRegs k) : (s.setUnitRegs k x).mem = s.mem := by
  cases k <;> rfl

theorem State.unitRegs_setUnitRegs_of_ne {j k : HashUnit} (h : j ≠ k) (s : State) (x : UnitRegs j) :
    (s.setUnitRegs j x).unitRegs k = s.unitRegs k := by
  cases j with
  | fnv32 => cases k with
    | fnv32 => exact absurd rfl h
    | _ => rfl
  | fnv64 => cases k with
    | fnv64 => exact absurd rfl h
    | _ => rfl
  | fnvj32 => cases k with
    | fnvj32 => exact absurd rfl h
    | _ => rfl
  | fnvj64 => cases k with
    | fnvj64 => exact absurd rfl h
    | _ => rfl
  | m3a => cases k with
    | m3a => exact absurd rfl h
    | _ => rfl
  | m3f => cases k with
    | m3f => exact absurd rfl h
    | _ => rfl

theorem State.setUnitRegs_comm {j k : HashUnit} (h : j ≠ k) (s : State) (x : UnitRegs j) (y : UnitRegs k) :
    (s.setUnitRegs j x).setUnitRegs k y = (s.setUnitRegs k y).setUnitRegs j x := by
  cases j with
  | fnv32 => cases k with
    | fnv32 => exact absurd rfl h
    | _ => rfl
  | fnv64 => cases k with
    | fnv64 => exact absurd rfl h
    | _ => rfl
  | fnvj32 => cases k with
    | fnvj32 => exact absurd rfl h
    | _ => rfl
  | fnvj64 => cases k with
    | fnvj64 => exact absurd rfl h
    | _ => rfl
  | m3a => cases k with
    | m3a => exact absurd rfl h
    | _ => rfl
  | m3f => cases k with
    | m3f => exact absurd rfl h
    | _ => rfl

/-! ## Procedures of one unit -/

/-- The effect replaces the registers of the unit by a function of them, and does nothing else. -/
def ChangesOnly (k : HashUnit) (f : State → State) : Prop :=
  ∃ g : UnitRegs k → UnitRegs k, ∀ s, f s = s.setUnitRegs k (g (s.unitRegs k))

namespace ChangesOnly

variable {j k : HashUnit} {f f' : State → State}

theorem flt_eq (h : ChangesOnly k f) (s : State) : (f s).flt = s.flt := by
  obtain ⟨g, hf⟩ := h
  rw [hf, State.setUnitRegs_flt]

theorem mem_eq (h : ChangesOnly k f) (s : State) : (f s).mem = s.mem := by
  obtain ⟨g, hf⟩ := h
  rw [hf, State.setUnitRegs_mem]

/-- Effects on two different units commute. -/
theorem comm (h : ChangesOnly j f) (h' : ChangesOnly k f') (hne : j ≠ k) (s : State) : f' (f s) = f (f' s) := by
  obtain ⟨g, hf⟩ := h
  obtain ⟨g', hf'⟩ := h'
  rw [hf' (f s), hf (f' s), hf, hf', State.unitRegs_setUnitRegs_of_ne hne, State.unitRegs_setUnitRegs_of_ne hne.symm,
    State.setUnitRegs_comm hne]

end ChangesOnly

theorem changesOnly_resetUnit (k : HashUnit) : ChangesOnly k (resetUnit k) := by
  cases k
  · exact ⟨fnv32Reset, fun _ => rfl⟩
  · exact ⟨fnv64Reset, fun _ => rfl⟩
  · exact ⟨fnvj32Reset, fun _ => rfl⟩
  · exact ⟨fnvj64Reset, fun _ => rfl⟩
  · exact ⟨m3aReset, fun _ => rfl⟩
  · exact ⟨m3fReset, fun _ => rfl⟩

theorem changesOnly_byteUnit (k : HashUnit) (b : Byte) : ChangesOnly k (byteUnit k b) := by
  cases k
  · exact ⟨fnv32Byte b, fun _ => rfl⟩
  · exact ⟨fnv64Byte b, fun _ => rfl⟩
  · exact ⟨fnvj32Byte b, fun _ => rfl⟩
  · exact ⟨fnvj64Byte b, fun _ => rfl⟩
  · exact ⟨m3aByte b, fun _ => rfl⟩
  · exact ⟨m3fByte b, fun _ => rfl⟩

theorem changesOnly_bytesUnit (k : HashUnit) (bs : List Byte) : ChangesOnly k (bytesUnit k bs) := by
  cases k
  · exact ⟨fun u => bs.foldl (fun u b => fnv32Byte b u) u, fun _ => rfl⟩
  · exact ⟨fun u => bs.foldl (fun u b => fnv64Byte b u) u, fun _ => rfl⟩
  · exact ⟨fun u => bs.foldl (fun u b => fnvj32Byte b u) u, fun _ => rfl⟩
  · exact ⟨fun u => bs.foldl (fun u b => fnvj64Byte b u) u, fun _ => rfl⟩
  · exact ⟨m3aBytes bs, fun _ => rfl⟩
  · exact ⟨m3fBytes bs, fun _ => rfl⟩

/-! ## The same command to two units -/

/-- From every state without a fault and with the buffer of `s`, the command to each unit is the effect on that unit. -/
structure ForwardsTo (s : State) (cmd : HashUnit → Instr) (f : HashUnit → State → State) : Prop where
  changesOnly : ∀ k, ChangesOnly k (f k)
  exec_eq : ∀ k (t : State), t.faulted = false → t.mem = s.mem → exec (cmd k) t = .next (f k t)

theorem forwardsTo_reset (s : State) (op : Operands) : ForwardsTo s (resetOf · op) resetUnit where
  changesOnly := changesOnly_resetUnit
  exec_eq k _ ht _ := exec_resetOf_of_live ht k op

theorem forwardsTo_updb (s : State) (b : Byte) (op : Operands) : ForwardsTo s (updbOf · b op) (byteUnit · b) where
  changesOnly k := changesOnly_byteUnit k b
  exec_eq k _ ht _ := exec_updbOf_of_live ht k b op

theorem forwardsTo_updr {s : State} {op : Operands} (h : addrOf op + countOf op ≤ s.mem.size) :
    ForwardsTo s (updrOf · op) (bytesUnit · (memRead s.mem (addrOf op) (countOf op))) where
  changesOnly k := changesOnly_bytesUnit k _
  exec_eq k t ht hmem := by
    rw [← hmem] at h ⊢
    exact exec_updrOf_of_inBounds ht h k

namespace ForwardsTo

variable {s : State} {cmd : HashUnit → Instr} {f : HashUnit → State → State}

/-- The command to one unit and then to another. -/
theorem execAll_pair (h : ForwardsTo s cmd f) (hs : s.faulted = false) (j k : HashUnit) :
    execAll [cmd j, cmd k] s = .next (f k (f j s)) := by
  have hlive : (f j s).faulted = false := (faulted_congr ((h.changesOnly j).flt_eq s)).trans hs
  rw [execAll_cons_of_next (h.exec_eq j s hs rfl),
    execAll_cons_of_next (h.exec_eq k _ hlive ((h.changesOnly j).mem_eq s)), execAll]

/-- R263 to R265: a command that has the effect on one unit and then on the other is the command to both, in this order
and, where they are different, in the other. -/
theorem exec_pair (h : ForwardsTo s cmd f) (hs : s.faulted = false) {j k : HashUnit} {i : Instr}
    (hi : exec i s = .next (f k (f j s))) : ∃ t : State, exec i s = .next t
      ∧ execAll [cmd j, cmd k] s = .next t ∧ (j ≠ k → execAll [cmd k, cmd j] s = .next t) := by
  refine ⟨_, hi, h.execAll_pair hs j k, fun hne => ?_⟩
  rw [h.execAll_pair hs k j, (h.changesOnly j).comm (h.changesOnly k) hne]

end ForwardsTo

/-! ## The three commands -/

theorem exec_resetCmb (op : Operands) (s : State) : exec (.resetCmb op) s = execResetCmb op s := rfl

theorem exec_updbCmb (b : Byte) (op : Operands) (s : State) : exec (.updbCmb b op) s = execUpdbCmb b op s := rfl

theorem exec_updrCmb (op : Operands) (s : State) : exec (.updrCmb op) s = execUpdrCmb op s := rfl

section Commands

variable {s : State} (hs : s.faulted = false) (b : Byte) (op : Operands)
include hs

theorem exec_resetCmb_of_bound (hb : s.u6.bound = true) :
    exec (.resetCmb op) s = .next (resetUnit s.u6.sel2 (resetUnit s.u6.sel1 s)) := by
  rw [exec_resetCmb, execResetCmb, whenLive_of_live hs, checkBound_of_bound hb]

theorem exec_updbCmb_of_bound (hb : s.u6.bound = true) :
    exec (.updbCmb b op) s = .next (byteUnit s.u6.sel2 b (byteUnit s.u6.sel1 b s)) := by
  rw [exec_updbCmb, execUpdbCmb, whenLive_of_live hs, checkBound_of_bound hb]

theorem exec_updrCmb_of_bound (hb : s.u6.bound = true) (hin : addrOf op + countOf op ≤ s.mem.size) :
    exec (.updrCmb op) s = .next (bytesUnit s.u6.sel2 (memRead s.mem (addrOf op) (countOf op))
      (bytesUnit s.u6.sel1 (memRead s.mem (addrOf op) (countOf op)) s)) := by
  rw [exec_updrCmb, execUpdrCmb, whenLive_of_live hs, checkBound_of_bound hb, checkBounds_of_inBounds hin]

theorem exec_updrCmb_of_outOfBounds (hb : s.u6.bound = true) (hout : s.mem.size < addrOf op + countOf op) :
    exec (.updrCmb op) s = .next (faultEntry .bounds (encode (.updrCmb op)) s) := by
  rw [exec_updrCmb, execUpdrCmb, whenLive_of_live hs, checkBound_of_bound hb, checkBounds_of_outOfBounds hout]

theorem exec_resetCmb_of_unbound (hb : s.u6.bound = false) :
    exec (.resetCmb op) s = .next (faultEntry .unbound (encode (.resetCmb op)) s) := by
  rw [exec_resetCmb, execResetCmb, whenLive_of_live hs, checkBound_of_unbound hb]

theorem exec_updbCmb_of_unbound (hb : s.u6.bound = false) :
    exec (.updbCmb b op) s = .next (faultEntry .unbound (encode (.updbCmb b op)) s) := by
  rw [exec_updbCmb, execUpdbCmb, whenLive_of_live hs, checkBound_of_unbound hb]

theorem exec_updrCmb_of_unbound (hb : s.u6.bound = false) :
    exec (.updrCmb op) s = .next (faultEntry .unbound (encode (.updrCmb op)) s) := by
  rw [exec_updrCmb, execUpdrCmb, whenLive_of_live hs, checkBound_of_unbound hb]

end Commands

/-- Settles O44: bound, each command is the command to the two units; unbound or out of bounds, it takes the fault. -/
theorem cmbForward : Obligations.CmbForward := by
  intro s b op hs
  exact ⟨decode_of_encode_eq rfl, decode_of_encode_eq rfl, decode_of_encode_eq rfl,
    fun hb => (forwardsTo_reset s op).exec_pair hs (exec_resetCmb_of_bound hs op hb),
    fun hb => (forwardsTo_updb s b op).exec_pair hs (exec_updbCmb_of_bound hs b op hb),
    fun hb hin => (forwardsTo_updr hin).exec_pair hs (exec_updrCmb_of_bound hs op hb hin),
    fun hb hout => exec_updrCmb_of_outOfBounds hs op hb hout,
    fun hb => ⟨exec_resetCmb_of_unbound hs op hb, exec_updbCmb_of_unbound hs b op hb,
      exec_updrCmb_of_unbound hs op hb⟩⟩

end Sys2Proof.Machine
end

section
/-!
SUPPORT. The packer's value and its streams (R264 to R266, R269). Reading the first value leaves all that the second one
is computed from, so the packed value is made of the two units' own values; a range forwarded to two different units is,
outside the cache, its bytes forwarded to both one at a time.
-/

namespace Sys2Proof.Machine

/-! ## The packed word (R266) -/

/-- R266: the shift loses the high half of the second value and the mask the high half of the first. -/
theorem packValues_eq_append (v1 v2 : Word64) :
    packValues v1 v2 = v2.extractLsb' 0 32 ++ v1.extractLsb' 0 32 := by
  rw [packValues, ← setWidth64_setWidth32]
  refine BitVec.eq_of_getLsbD_eq fun i hi => .trans ?_ BitVec.getLsbD_append.symm
  by_cases h : i < 32
  · simp [h, hi]
  · have hhigh : i - 32 < 32 := by omega
    simp [h, hi, hhigh, -BitVec.getLsbD_eq_getElem]

theorem packValues_low (v1 v2 : Word64) : (packValues v1 v2).extractLsb' 0 32 = v1.extractLsb' 0 32 := by
  rw [packValues_eq_append]
  exact BitVec.extractLsb'_append_eq_right

theorem packValues_high (v1 v2 : Word64) : (packValues v1 v2).extractLsb' 32 32 = v2.extractLsb' 0 32 := by
  rw [packValues_eq_append]
  exact BitVec.extractLsb'_append_eq_left

theorem packValues_eq_zero_iff (v1 v2 : Word64) :
    packValues v1 v2 = 0#64 ↔ v1.extractLsb' 0 32 = 0#32 ∧ v2.extractLsb' 0 32 = 0#32 := by
  refine ⟨fun h => ?_, fun ⟨h1, h2⟩ => ?_⟩
  · rw [← packValues_low v1 v2, ← packValues_high v1 v2, h]
    exact ⟨rfl, rfl⟩
  · rw [packValues_eq_append, h1, h2]
    rfl

/-! ## Reading the two values (R266) -/

/-- `Value_k` neither reads the result registers nor writes them. -/
theorem valueUnit_writeR0 (k : HashUnit) (s : State) (v : Word64) :
    valueUnit k (s.writeR0 v) = ((valueUnit k s).1, (valueUnit k s).2.writeR0 v) := by
  cases k <;> rfl

theorem State.writeR0_writeR0 (s : State) (v w : Word64) : (s.writeR0 v).writeR0 w = s.writeR0 w := rfl

/-- The second value is the one of the state before the first was read. -/
theorem valueUnit_fst_after (j k : HashUnit) (s : State) :
    (valueUnit k (valueUnit j s).2).1 = (valueUnit k s).1 := (sameReads_valueUnit j s).value k

theorem forgetCache_valueUnit (k : HashUnit) (s : State) : forgetCache (valueUnit k s).2 = forgetCache s := by
  rw [valueUnit_snd, forgetCache_fillIf]

theorem exec_getvCmb (op : Operands) (s : State) : exec (.getvCmb op) s = execGetvCmb op s := rfl

theorem exec_getvCmb_of_bound {s : State} (hs : s.faulted = false) (hb : s.u6.bound = true) (op : Operands) :
    exec (.getvCmb op) s = .next ((valueUnit s.u6.sel2 (valueUnit s.u6.sel1 s).2).2.writeR0
      (packValues (valueUnit s.u6.sel1 s).1 (valueUnit s.u6.sel2 s).1)) := by
  rw [exec_getvCmb, execGetvCmb, whenLive_of_live hs, checkBound_of_bound hb]
  dsimp only
  rw [valueUnit_fst_after]

theorem exec_getvCmb_of_unbound {s : State} (hs : s.faulted = false) (hb : s.u6.bound = false) (op : Operands) :
    exec (.getvCmb op) s = .next (faultEntry .unbound (encode (.getvCmb op)) s) := by
  rw [exec_getvCmb, execGetvCmb, whenLive_of_live hs, checkBound_of_unbound hb]

/-- R126: two values read one after the other, into the same result register. -/
theorem exec_getvOf_after_getvOf {s : State} (hs : s.faulted = false) (j k : HashUnit) (op : Operands) :
    exec (getvOf k op) ((valueUnit j s).2.writeR0 (valueUnit j s).1) =
      .next ((valueUnit k (valueUnit j s).2).2.writeR0 (valueUnit k s).1) := by
  have hlive : ((valueUnit j s).2.writeR0 (valueUnit j s).1).faulted = false :=
    (faulted_congr (valueUnit_flt j s)).trans hs
  rw [exec_getvOf_of_live hlive, valueUnit_writeR0, State.writeR0_writeR0, valueUnit_fst_after]

/-- Settles O45: both sides read the same two values; only the result register differs. -/
theorem cmbValue : Obligations.CmbValue := by
  intro s op hs
  refine ⟨decode_of_encode_eq rfl, fun hb => ?_, fun hb => exec_getvCmb_of_unbound hs hb op⟩
  have hpack := exec_getvCmb_of_bound hs hb op
  rw [State.writeR0, valueUnit_res, valueUnit_res] at hpack
  refine ⟨_, _, exec_getvOf_of_live hs s.u6.sel1 op, exec_getvOf_after_getvOf hs s.u6.sel1 s.u6.sel2 op, hpack,
    packValues_low _ _, packValues_high _ _, ?_⟩
  have hcache : forgetCache (valueUnit s.u6.sel2 (valueUnit s.u6.sel1 s).2).2 = forgetCache s := by
    rw [forgetCache_valueUnit, forgetCache_valueUnit]
  exact congrArg (·.setRes s.res) hcache

/-! ## Bytes forwarded to two units (R264, R265, R270) -/

/-- The bytes of a list forwarded to both units one at a time. -/
def forwardUpdates (j k : HashUnit) (bs : List Byte) : List Update := bs.flatMap fun b => [.byte j b, .byte k b]

theorem forwardUpdates_append (j k : HashUnit) (bs cs : List Byte) :
    forwardUpdates j k (bs ++ cs) = forwardUpdates j k bs ++ forwardUpdates j k cs := List.flatMap_append

theorem runUpdates_forwardUpdates_cons (j k : HashUnit) (b : Byte) (bs : List Byte) (s : State) :
    runUpdates (forwardUpdates j k (b :: bs)) s =
      runUpdates (forwardUpdates j k bs) (byteUnit k b (byteUnit j b s)) := rfl

/-- R265: the order in which two different units take the bytes of a range does not show outside the cache. -/
theorem forgetCache_bytesUnit_pair {j k : HashUnit} (hne : j ≠ k) (bs : List Byte) (s : State) :
    forgetCache (bytesUnit k bs (bytesUnit j bs s)) = forgetCache (runUpdates (forwardUpdates j k bs) s) := by
  induction bs generalizing s with
  | nil =>
    have hempty (i : HashUnit) (t : State) : forgetCache (bytesUnit i [] t) = forgetCache t :=
      forgetCache_bytesUnit i [] t
    rw [hempty, hempty]
    rfl
  | cons b bs ih =>
    have hcomm := (changesOnly_bytesUnit j bs).comm (changesOnly_byteUnit k b) hne (byteUnit j b s)
    rw [bytesUnit_cons_all, bytesUnit_cons_all, hcomm, ih, runUpdates_forwardUpdates_cons]

/-- The command of one piece to the packer is, outside the cache, the bytes of the piece forwarded one at a time. -/
theorem exec_toPacker {s : State} {p : Piece} (hs : s.faulted = false) (hb : s.u6.bound = true)
    (hne : s.u6.sel1 ≠ s.u6.sel2) (hp : p.fits s.mem = true) :
    ∃ t : State, exec p.toPacker s = .next t ∧ t.faulted = false ∧ t.u6 = s.u6
      ∧ forgetCache t = forgetCache (runUpdates (forwardUpdates s.u6.sel1 s.u6.sel2 (p.bytes s.mem)) s) := by
  cases p with
  | byte b =>
    refine ⟨_, exec_updbCmb_of_bound hs b _ hb, ?_, ?_, rfl⟩
    · rw [byteUnit_faulted, byteUnit_faulted, hs]
    · rw [byteUnit_u6, byteUnit_u6]
  | range op =>
    refine ⟨_, exec_updrCmb_of_bound hs op hb (addrOf_add_countOf_le_of_fits hp), ?_, ?_,
      forgetCache_bytesUnit_pair hne _ s⟩
    · rw [faulted_congr (bytesUnit_flt ..), faulted_congr (bytesUnit_flt ..), hs]
    · rw [bytesUnit_u6, bytesUnit_u6]

/-- So are the commands of a list of pieces. -/
theorem execAll_toPacker {ps : List Piece} {s : State} (hs : s.faulted = false) (hb : s.u6.bound = true)
    (hne : s.u6.sel1 ≠ s.u6.sel2) (hps : ∀ p ∈ ps, p.fits s.mem = true) :
    ∃ t : State, execAll (ps.map Piece.toPacker) s = .next t ∧ forgetCache t =
      forgetCache (runUpdates (forwardUpdates s.u6.sel1 s.u6.sel2 (ps.flatMap (Piece.bytes s.mem))) s) := by
  induction ps generalizing s with
  | nil => exact ⟨s, rfl, rfl⟩
  | cons p ps ih =>
    obtain ⟨s₁, hexec, hlive, hbinding, hcache⟩ := exec_toPacker hs hb hne (hps p (.head ps))
    have hmem : s₁.mem = s.mem := exec_mem hexec
    obtain ⟨t, hrest, ht⟩ := ih hlive (by rw [hbinding, hb]) (by rwa [hbinding]) fun q hq => hmem ▸ hps q (.tail p hq)
    refine ⟨t, (execAll_cons_of_next hexec _).trans hrest, ?_⟩
    rw [ht, hmem, hbinding, List.flatMap_cons, forwardUpdates_append, runUpdates_append]
    exact runUpdates_forgetCache _ hcache

/-- Settles O51: outside the cache both ways forward the same single bytes. -/
theorem packerChunking : Obligations.PackerChunking := by
  intro s ps qs hs hb hne hfits hbytes
  obtain ⟨hps, hqs⟩ := List.forall_mem_append.1 hfits
  obtain ⟨t, hexec, ht⟩ := execAll_toPacker hs hb hne hps
  obtain ⟨t', hexec', ht'⟩ := execAll_toPacker hs hb hne hqs
  exact ⟨t, t', hexec, hexec', by rw [ht, ht', hbytes]⟩

/-! ## Two fresh units (R269) -/

/-- R269: the value of a unit right after hardware reset. -/
def emptyValue : HashUnit → Word64
  | .fnv32 => 0x811C9DC5#64
  | .fnv64 => 0xCBF29CE484222325#64
  | .fnvj32 => 0x117697CD#64
  | .fnvj64 => 0x08328807B4EB6FED#64
  | .m3a | .m3f => 0#64

/-- The hashing units after a hardware reset do not depend on the state before it, nor on the binding. -/
theorem valueUnit_hardwareReset (k : HashUnit) (s : State) (x : CmbRegs) :
    (valueUnit k ((hardwareReset s).setU6 x)).1 = emptyValue k := by
  have hreset : (valueUnit k ((hardwareReset s).setU6 x)).1 = (valueUnit k State.reset).1 := by cases k <;> rfl
  rw [hreset]
  cases k <;> decide

/-- The low halves of the six values are zero for the two Murmur3 units only. -/
theorem emptyValue_low_eq_zero_iff (k : HashUnit) :
    (emptyValue k).extractLsb' 0 32 = 0#32 ↔ k = .m3a ∨ k = .m3f := by
  cases k <;> decide

theorem packValues_emptyValue_eq_zero_iff {j k : HashUnit} (hne : j ≠ k) :
    packValues (emptyValue j) (emptyValue k) = 0#64 ↔ (j = .m3a ∧ k = .m3f) ∨ (j = .m3f ∧ k = .m3a) := by
  rw [packValues_eq_zero_iff, emptyValue_low_eq_zero_iff, emptyValue_low_eq_zero_iff]
  constructor
  · rintro ⟨rfl | rfl, rfl | rfl⟩
    · exact absurd rfl hne
    · exact .inl ⟨rfl, rfl⟩
    · exact .inr ⟨rfl, rfl⟩
    · exact absurd rfl hne
  · rintro (⟨rfl, rfl⟩ | ⟨rfl, rfl⟩)
    · exact ⟨.inl rfl, .inr rfl⟩
    · exact ⟨.inr rfl, .inl rfl⟩

/-- R33: a unit is known by its number. -/
theorem selectorOf_inj {j k : HashUnit} : selectorOf j = selectorOf k ↔ j = k := by
  refine ⟨fun h => Option.some.inj ?_, congrArg selectorOf⟩
  rw [← hashUnitOf_selectorOf, h, hashUnitOf_selectorOf]

/-- Binding two different units of a fresh block and reading the packed value. -/
theorem execAll_bind_getv_hardwareReset (s : State) {j k : HashUnit} (hne : j ≠ k) (op : Operands) :
    ∃ t : State, execAll [.bindCmb (selectorOf j) (selectorOf k) op, .getvCmb op] (hardwareReset s) = .next t
      ∧ t.res.r0 = packValues (emptyValue j) (emptyValue k) := by
  have hbind := exec_bindCmb_of_ne (hardwareReset_faulted s) hne op
  have hgetv := exec_getvCmb_of_bound (s := (hardwareReset s).setU6 ⟨true, j, k⟩) (hardwareReset_faulted s) rfl op
  refine ⟨_, (execAll_cons_of_next hbind _).trans (execAll_cons_of_next hgetv _), ?_⟩
  rw [State.writeR0_res, State.setU6_u6, valueUnit_hardwareReset, valueUnit_hardwareReset]

/-- Settles O57: the packed value is made of the two values right after reset, whose low halves decide when it is
zero. -/
theorem packerBaseline : Obligations.PackerBaseline := by
  unfold Obligations.PackerBaseline
  intro empty s s1 s2 op hlegal
  obtain ⟨j, k, rfl, rfl, hne⟩ := exists_units_of_legalBinding hlegal
  have hempty (i : HashUnit) : empty (selectorOf i) = emptyValue i := by cases i <;> rfl
  have hm3a (i : HashUnit) : selectorOf i = 4#3 ↔ i = .m3a := selectorOf_inj (k := .m3a)
  have hm3f (i : HashUnit) : selectorOf i = 5#3 ↔ i = .m3f := selectorOf_inj (k := .m3f)
  obtain ⟨t, hexec, hr0⟩ := execAll_bind_getv_hardwareReset s hne op
  refine ⟨t, hexec, ?_, ?_⟩
  · rw [hempty, hempty, hr0, packValues]
  · rw [hm3a, hm3a, hm3f, hm3f, hr0, packValues_emptyValue_eq_zero_iff hne]

end Sys2Proof.Machine
end

section
/-!
SUPPORT. The faults (spec/60_exceptions.md). The decoder's answers in terms of the conditions that R286 to R288 write,
the two checks an instruction makes on the state (R282, R289), and what a block that has taken a fault still does
(R285).
-/

namespace Sys2Proof.Machine

/-! ## The decoder's answers by the fault rules (R286 to R288) -/

theorem mem_opcodes_iff (b : BitVec 8) : b ∈ allMnemonics.map opcodeBits ↔ (mnemonicOf b).isSome = true := by
  rw [mnemonicOf, List.find?_isSome, List.mem_map]
  simp only [beq_iff_eq]

section Decoder

variable {p : Packet}

/-- R286: the decoder's first check. -/
theorem decode_eq_illegalOp_iff : decode p = .error .illegalOp ↔ definedOp p = false := by
  rw [definedOp_eq, Option.isSome_eq_false_iff, Option.isNone_iff_eq_none]
  constructor
  · intro h
    have hcase := decode_cases p
    rw [h] at hcase
    cases hcase with
    | badOp hm => exact hm
  · intro hm
    rw [decode, hm]

theorem not_legalPair_of_badUnit {m : Mnemonic} (hm : mnemonicOf (opField p.cw) = some m)
    (hu : ∀ u, unitOf (unitField p.cw) = some u → u ∉ legalUnits m) : legalPair p = false :=
  Bool.eq_false_of_not_eq_true fun hpair =>
    have ⟨u, hlegal, hu'⟩ := (legalPair_iff hm).mp hpair
    hu u hu' hlegal

/-- R287: the decoder's second check. -/
theorem decode_eq_illegalUnit_iff (hop : definedOp p = true) :
    decode p = .error .illegalUnit ↔ legalPair p = false := by
  have hcase := decode_cases p
  generalize decode p = outcome at hcase
  cases hcase with
  | badOp hm => simp [definedOp_eq, hm] at hop
  | badUnit hm hu => simp [not_legalPair_of_badUnit hm hu]
  | badField hm hu hlegal => simp [(legalPair_iff hm).mpr ⟨_, hlegal, hu⟩]
  | accepted hm hu hi => simp [(legalPair_iff hm).mpr ⟨_, mem_legalUnits_of_selectInstr hi, hu⟩]

/-- R288: on a legal pair, a field error is found by the decoder, or is the ill-formedness of the instruction. -/
theorem decode_of_legalPair (hop : definedOp p = true) (hpair : legalPair p = true) :
    (decode p = .error .illegalField ∧ fieldError p = true)
      ∨ ∃ i : Instr, decode p = .ok i ∧ fieldError p = !i.wellFormed := by
  have hcase := decode_cases p
  generalize decode p = outcome at hcase
  cases hcase with
  | badOp hm => simp [definedOp_eq, hm] at hop
  | badUnit hm hu => simp [not_legalPair_of_badUnit hm hu] at hpair
  | badField hm hu hlegal hfields =>
    exact .inl ⟨rfl, by rw [fieldError_eq hm hu hlegal, hfields, Bool.not_false, Bool.true_or]⟩
  | @accepted m u i hm hu hi hfields =>
    refine .inr ⟨i, rfl, ?_⟩
    rw [fieldError_eq hm hu (mem_legalUnits_of_selectInstr hi), hfields, wellFormed_of_selectInstr hi, Bool.not_not,
      Bool.not_true, Bool.false_or]

end Decoder

/-- Settles O5: the list of R286 is the table of opcodes, and a rejected packet takes its fault. -/
theorem illegalOpRaised : Obligations.IllegalOpRaised := by
  intro p s
  refine ⟨?_, fun hs hd => runPacket_of_rejected hs hd⟩
  rw [decode_eq_illegalOp_iff, definedOp_eq, ← Bool.not_eq_true, ← mem_opcodes_iff]
  rfl

/-- Settles O6: the set of R84 is what makes a pair legal, and a rejected packet takes its fault. -/
theorem illegalUnitRaised : Obligations.IllegalUnitRaised := by
  intro p s hop
  refine ⟨?_, fun hs hd => runPacket_of_rejected hs hd⟩
  rw [decode_eq_illegalUnit_iff hop, ← Bool.not_eq_true, legalPair, List.contains_iff_mem]

/-- Settles O7: the fault is the third case of the order of R90; without a field error the decoder accepts. -/
theorem illegalFieldRaised : Obligations.IllegalFieldRaised := by
  intro p s hs hop hpair
  refine ⟨fun herror => ?_, fun herror => ?_⟩
  · have horder := (decodeOrder p s).2 hs
    rwa [if_neg (by simp [hop]), if_neg (by simp [hpair]), if_pos herror] at horder
  · rcases decode_of_legalPair hop hpair with ⟨-, herror'⟩ | ⟨i, hd, hwf⟩
    · exact absurd (herror.symm.trans herror') Bool.false_ne_true
    · exact ⟨i, hd, by rw [← Bool.not_eq_false', ← hwf, herror]⟩

/-! ## The checks on the state (R282, R289) -/

/-- R282: an instruction that is not stopped by the packer's binding makes the bounds check and no other. -/
theorem exec_boundsChecked (i : Instr) {s : State} (hs : s.faulted = false) (hi : i.wellFormed = true)
    (hbound : packs i = true → s.u6.bound = true) {word : Word32} {op : Operands} (hcw : encode i = ⟨word, op⟩)
    {n : Nat} (hread : readEnd i = n) :
    if s.mem.size < n then exec i s = .next { s with flt := ⟨0x11#32, word, op.a, op.b⟩ }
    else ∃ t : State, exec i s = .next t ∧ t.flt = s.flt := by
  have hchecks := exec_stateChecks hs hi
  rwa [StateChecks, if_neg (not_unbound hbound), hread, hcw] at hchecks

/-- R125: the bounds check of the range update of a hashing unit. -/
theorem exec_updrOf_boundsChecked (k : HashUnit) {s : State} (hs : s.faulted = false) {word : Word32} {op : Operands}
    (hcw : encode (updrOf k op) = ⟨word, op⟩) :
    if s.mem.size < op.a.toNat + op.b.toNat then
      exec (updrOf k op) s = .next { s with flt := ⟨0x11#32, word, op.a, op.b⟩ }
    else ∃ t : State, exec (updrOf k op) s = .next t ∧ t.flt = s.flt :=
  exec_boundsChecked (updrOf k op) hs (by cases k <;> rfl) (by cases k <;> nofun) hcw (by cases k <;> rfl)

/-- Settles O9: each instruction that reads memory makes the bounds check, but for the null forms. -/
theorem boundsRaised : Obligations.BoundsRaised := by
  intro s e op hs
  exact ⟨exec_updrOf_boundsChecked .fnv32 hs rfl, exec_updrOf_boundsChecked .fnv64 hs rfl,
    exec_updrOf_boundsChecked .fnvj32 hs rfl, exec_updrOf_boundsChecked .fnvj64 hs rfl,
    exec_updrOf_boundsChecked .m3a hs rfl, exec_updrOf_boundsChecked .m3f hs rfl,
    fun hb => exec_boundsChecked (.updrCmb op) hs rfl (fun _ => hb) rfl rfl,
    exec_boundsChecked (.upda16M3a false op) hs rfl nofun rfl rfl, shellArray_of_null 2 m3aArray16 _ s,
    exec_boundsChecked (.upda32M3a false op) hs rfl nofun rfl rfl, shellArray_of_null 4 m3aArray32 _ s,
    exec_boundsChecked (.upda64M3a false op) hs rfl nofun rfl rfl, shellArray_of_null 8 m3aArray64 _ s,
    exec_boundsChecked (.rd32Bor e op) hs rfl nofun (encode_rd32Bor e op) rfl,
    exec_boundsChecked (.rd64Bor e op) hs rfl nofun (encode_rd64Bor e op) rfl⟩

/-- Settles O8, command by command. -/
theorem unboundRaised : Obligations.UnboundRaised := by
  intro s b op hs hb
  exact ⟨exec_resetCmb_of_unbound hs op hb, exec_updbCmb_of_unbound hs b op hb, exec_updrCmb_of_unbound hs op hb,
    exec_getvCmb_of_unbound hs hb op⟩

/-! ## Fault entry (R283, R284) -/

/-- Settles O10: of the six outcomes of R90 five are fault entries and one keeps the fault registers. -/
theorem faultEntryRecords : Obligations.FaultEntryRecords := by
  intro p s hs
  have horder := (decodeOrder p s).2 hs
  split_ifs at horder with hop hpair herror hunbound hrange
  · exact ⟨_, horder, .inr ⟨2#32, by decide, rfl⟩⟩
  · exact ⟨_, horder, .inr ⟨3#32, by decide, rfl⟩⟩
  · exact ⟨_, horder, .inr ⟨4#32, by decide, rfl⟩⟩
  · exact ⟨_, horder, .inr ⟨5#32, by decide, rfl⟩⟩
  · exact ⟨_, horder, .inr ⟨1#32, by decide, rfl⟩⟩
  · obtain ⟨t, hrun, hflt⟩ := horder
    exact ⟨t, hrun, .inl ⟨(faulted_congr hflt).trans hs, hflt⟩⟩

/-! ## While a fault is recorded (R285) -/

section Guards

variable {s : State} (hs : s.faulted = true)
include hs

theorem shellInit_of_faulted (k : HashUnit) (op : Operands) : shellInit k op s = .next s := whenLive_of_faulted hs _

theorem shellReset_of_faulted (k : HashUnit) : shellReset k s = .next s := whenLive_of_faulted hs _

theorem shellUpdb_of_faulted (k : HashUnit) (b : Byte) : shellUpdb k b s = .next s := whenLive_of_faulted hs _

theorem shellUpdr_of_faulted (k : HashUnit) (p : Packet) : shellUpdr k p s = .next s := whenLive_of_faulted hs _

theorem shellGetv_of_faulted (k : HashUnit) : shellGetv k s = .next s := whenLive_of_faulted hs _

theorem shellFinish_of_faulted (write : Word64 → Word64 → State → State) : shellFinish write s = .next s :=
  whenLive_of_faulted hs _

theorem shellArray_of_faulted (width : Nat) (feed : Memory → Nat → Nat → M3aRegs → M3aRegs) (null : Bool)
    (p : Packet) : shellArray width feed null p s = .next s := whenLive_of_faulted hs _

/-- R37, R121: every instruction is guarded by `STATUS.FAULT`. -/
theorem exec_of_faulted (i : Instr) : exec i s = .next s := by
  cases i with
  | initFnv32 op | initFnv64 op | initFnvj32 op | initFnvj64 op | initM3a op | initM3f op =>
    exact shellInit_of_faulted hs _ op
  | resetFnv32 | resetFnv64 | resetFnvj32 | resetFnvj64 | resetM3a | resetM3f => exact shellReset_of_faulted hs _
  | updbFnv32 b | updbFnv64 b | updbFnvj32 b | updbFnvj64 b | updbM3a b | updbM3f b =>
    exact shellUpdb_of_faulted hs _ b
  | updrFnv32 | updrFnv64 | updrFnvj32 | updrFnvj64 | updrM3a | updrM3f => exact shellUpdr_of_faulted hs _ _
  | getvFnv32 | getvFnv64 | getvFnvj32 | getvFnvj64 | getvM3a | getvM3f => exact shellGetv_of_faulted hs _
  | getvhM3f op => rw [exec_getvhM3f, shellFinish_of_faulted hs]
  | get128M3f op => rw [exec_get128M3f, shellFinish_of_faulted hs]
  | getbeM3f op => rw [exec_getbeM3f, shellFinish_of_faulted hs]
  | getleM3f op => rw [exec_getleM3f, shellFinish_of_faulted hs]
  | gethexM3f op => rw [exec_gethexM3f, shellFinish_of_faulted hs]
  | upda16M3a null | upda32M3a null | upda64M3a null => exact shellArray_of_faulted hs _ _ null _
  | upd16M3a op => rw [exec_upd16M3a, execUpd16M3a, whenLive_of_faulted hs]
  | upd32M3a op => rw [exec_upd32M3a, execUpd32M3a, whenLive_of_faulted hs]
  | upd64M3a op => rw [exec_upd64M3a, execUpd64M3a, whenLive_of_faulted hs]
  | upd64M3f e op => rw [exec_upd64M3f, execUpd64M3f, whenLive_of_faulted hs]
  | resetCmb op => rw [exec_resetCmb, execResetCmb, whenLive_of_faulted hs]
  | updbCmb b op => rw [exec_updbCmb, execUpdbCmb, whenLive_of_faulted hs]
  | updrCmb op => rw [exec_updrCmb, execUpdrCmb, whenLive_of_faulted hs]
  | getvCmb op => rw [exec_getvCmb, execGetvCmb, whenLive_of_faulted hs]
  | bindCmb sel1 sel2 op => rw [exec_bindCmb, execBindCmb, whenLive_of_faulted hs]
  | rd32Bor e op => rw [exec_rd32Bor, execRd32Bor, whenLive_of_faulted hs]
  | rd64Bor e op => rw [exec_rd64Bor, execRd64Bor, whenLive_of_faulted hs]

end Guards

/-- R285, R310: no event but a hardware reset clears the fault. -/
theorem runEvent_keeps_faulted {ev : HostEvent} {s t : State} (hs : s.faulted = true) (hev : ev ≠ .hardwareReset)
    (h : runEvent ev s = .next t) : t.faulted = true := by
  cases ev with
  | packet p =>
    cases (runPacket_of_faulted hs p).symm.trans h
    exact hs
  | bufWrite addr byte =>
    by_cases hin : addr < s.mem.size
    · cases (runEvent_bufWrite_inside hin byte).symm.trans h
      exact hs
    · cases (runEvent_bufWrite_outside hin byte).symm.trans h
  | hardwareReset => exact absurd rfl hev

theorem step_clears_fault {s t : State} (hs : s.faulted = true) (h : step s = .next t) (ht : t.faulted = false) :
    ∃ rest, s.host = .hardwareReset :: rest := by
  cases hhost : s.host with
  | nil =>
    cases (step_of_idle hhost).symm.trans h
    exact absurd (ht.symm.trans hs) Bool.false_ne_true
  | cons ev rest =>
    by_cases hev : ev = .hardwareReset
    · exact ⟨rest, by rw [hev]⟩
    · have hkept := runEvent_keeps_faulted (s := s.setHost rest) hs hev ((step_of_event hhost).symm.trans h)
      exact absurd (ht.symm.trans hkept) Bool.false_ne_true

/-- Settles O11: packets and instructions are guarded, and of the events only hardware reset clears the fault. -/
theorem faultIsSticky : Obligations.FaultIsSticky := by
  intro s hs
  exact ⟨runPacket_of_faulted hs, exec_of_faulted hs, fun t h ht => step_clears_fault hs h ht,
    fun rest hhost => ⟨_, step_of_event hhost, hardwareReset_faulted _⟩,
    rfl, rfl, rfl, rfl, rfl, rfl, rfl, rfl⟩

end Sys2Proof.Machine
end
